-- ==== Sys2Proof/Word.lean ====
section
/-! DEFINITION. The two bit-vector widths of the block: 8-bit data and 16-bit addresses (00_scope.md R11). -/

namespace Sys2Proof

/-- An 8-bit register or memory byte (R11: data register width 8 bits). -/
abbrev Byte := BitVec 8

/-- A 16-bit address, pc or sp (R11: address width 16 bits; arithmetic on it is mod 2^16, R14). -/
abbrev Word := BitVec 16

end Sys2Proof
end

