-- ==== Sys2Proof/Config.lean ====
section
/-! DEFINITION. The model parameters of 00_scope.md R12 (the spec's open points D5, D10, D14, D20, D22, D23, D28) as one
plain record. The state holds one such record (log 4), so a statement about every state is a statement about every value of
every parameter. BOOT_ROM and CART are byte stores of the state (10_state.md R30), not fields here. -/

namespace Sys2Proof

/-- One (R,G,B,A) tuple of four 8-bit channels (10_state.md R36, R38). -/
structure Rgba where
  r : Byte
  g : Byte
  b : Byte
  a : Byte
  deriving DecidableEq, Repr

/-- The palette: 4 entries, indexed by a 2-bit color index (R36). -/
abbrev Palette := Vector Rgba 4

/-- ZERO_POLARITY (R12, R85, D5). -/
inductive ZeroPolarity where
  | setWhenZero
  | setWhenNonzero
  deriving DecidableEq, Repr

/-- OVERSHOOT_MODE (R12, R117, R118, D23). -/
inductive OvershootMode where
  | carry
  | discard
  deriving DecidableEq, Repr

/-- The parameters of R12. CYC_NOP is not one of them: JSB section 8 fixes it at 1. -/
structure Config where
  bootAtReset : Bool
  zeroPolarity : ZeroPolarity
  overshootMode : OvershootMode
  cycAdd : Nat
  cycCp : Nat
  cycPush : Nat
  cycPop : Nat
  cycLdamm : Nat
  palette : Palette
  resetScx : Byte
  resetScy : Byte
  resetBgmapSel : Bool
  resetTilesetSel : Bool
  fbResetPixel : Rgba
  deriving DecidableEq, Repr

/-- The greyscale of D22. -/
def Palette.greyscale : Palette :=
  #v[⟨255, 255, 255, 255⟩, ⟨192, 192, 192, 255⟩, ⟨96, 96, 96, 255⟩, ⟨0, 0, 0, 255⟩]

/-- The default value of every parameter, as the table of R12 gives it. -/
def Config.defaults : Config where
  bootAtReset := true
  zeroPolarity := .setWhenZero
  overshootMode := .carry
  cycAdd := 1
  cycCp := 1
  cycPush := 4
  cycPop := 3
  cycLdamm := 4
  palette := Palette.greyscale
  resetScx := 0
  resetScy := 0
  resetBgmapSel := false
  resetTilesetSel := false
  fbResetPixel := ⟨255, 255, 255, 255⟩

end Sys2Proof
end

