-- ==== Sys2Proof/Syntax.lean ====
section
/-! DEFINITION. The instructions: one constructor per row of opcode_table.json (30_encoding.md R74, R75). The 24 admitted
instructions come first, then the 232 opcodes that select the FATAL handler (41_control.md R104), named by their byte. -/

namespace Sys2Proof

/-- The instruction set. Only LD A,(nn) has an operand, its 16-bit absolute address (R70). -/
inductive Instr where
  /-- `NOP`, opcode 0x00 (R103). -/
  | nop
  /-- `ADD A,B`, opcode 0x80 (R88). -/
  | addAB
  /-- `ADD A,C`, opcode 0x81 (R89). -/
  | addAC
  /-- `ADD A,D`, opcode 0x82 (R90). -/
  | addAD
  /-- `ADD A,E`, opcode 0x83 (R91). -/
  | addAE
  /-- `ADD A,H`, opcode 0x84 (R92). -/
  | addAH
  /-- `ADD A,L`, opcode 0x85 (R93). -/
  | addAL
  /-- `ADD A,A`, opcode 0x87 (R94). -/
  | addAA
  /-- `CP B`, opcode 0xB8 (R96). -/
  | cpB
  /-- `CP C`, opcode 0xB9 (R97). -/
  | cpC
  /-- `CP D`, opcode 0xBA (R98). -/
  | cpD
  /-- `CP E`, opcode 0xBB (R99). -/
  | cpE
  /-- `CP H`, opcode 0xBC (R100). -/
  | cpH
  /-- `CP L`, opcode 0xBD (R101). -/
  | cpL
  /-- `CP A`, opcode 0xBF (R102). -/
  | cpA
  /-- `POP BC`, opcode 0xC1 (R111). -/
  | popBC
  /-- `PUSH BC`, opcode 0xC5 (R106). -/
  | pushBC
  /-- `POP DE`, opcode 0xD1 (R112). -/
  | popDE
  /-- `PUSH DE`, opcode 0xD5 (R107). -/
  | pushDE
  /-- `POP HL`, opcode 0xE1 (R113). -/
  | popHL
  /-- `PUSH HL`, opcode 0xE5 (R108). -/
  | pushHL
  /-- `POP AF`, opcode 0xF1 (R114). -/
  | popAF
  /-- `PUSH AF`, opcode 0xF5 (R109). -/
  | pushAF
  /-- `LD A,(nn)`, opcode 0xFA (R115). -/
  | ldAnn (nn : Word)
  -- The 232 unimplemented opcodes of R75, each handled by the FATAL handler of R104.
  | fatal01 | fatal02 | fatal03 | fatal04 | fatal05 | fatal06 | fatal07 | fatal08
  | fatal09 | fatal0A | fatal0B | fatal0C | fatal0D | fatal0E | fatal0F | fatal10
  | fatal11 | fatal12 | fatal13 | fatal14 | fatal15 | fatal16 | fatal17 | fatal18
  | fatal19 | fatal1A | fatal1B | fatal1C | fatal1D | fatal1E | fatal1F | fatal20
  | fatal21 | fatal22 | fatal23 | fatal24 | fatal25 | fatal26 | fatal27 | fatal28
  | fatal29 | fatal2A | fatal2B | fatal2C | fatal2D | fatal2E | fatal2F | fatal30
  | fatal31 | fatal32 | fatal33 | fatal34 | fatal35 | fatal36 | fatal37 | fatal38
  | fatal39 | fatal3A | fatal3B | fatal3C | fatal3D | fatal3E | fatal3F | fatal40
  | fatal41 | fatal42 | fatal43 | fatal44 | fatal45 | fatal46 | fatal47 | fatal48
  | fatal49 | fatal4A | fatal4B | fatal4C | fatal4D | fatal4E | fatal4F | fatal50
  | fatal51 | fatal52 | fatal53 | fatal54 | fatal55 | fatal56 | fatal57 | fatal58
  | fatal59 | fatal5A | fatal5B | fatal5C | fatal5D | fatal5E | fatal5F | fatal60
  | fatal61 | fatal62 | fatal63 | fatal64 | fatal65 | fatal66 | fatal67 | fatal68
  | fatal69 | fatal6A | fatal6B | fatal6C | fatal6D | fatal6E | fatal6F | fatal70
  | fatal71 | fatal72 | fatal73 | fatal74 | fatal75 | fatal76 | fatal77 | fatal78
  | fatal79 | fatal7A | fatal7B | fatal7C | fatal7D | fatal7E | fatal7F | fatal86
  | fatal88 | fatal89 | fatal8A | fatal8B | fatal8C | fatal8D | fatal8E | fatal8F
  | fatal90 | fatal91 | fatal92 | fatal93 | fatal94 | fatal95 | fatal96 | fatal97
  | fatal98 | fatal99 | fatal9A | fatal9B | fatal9C | fatal9D | fatal9E | fatal9F
  | fatalA0 | fatalA1 | fatalA2 | fatalA3 | fatalA4 | fatalA5 | fatalA6 | fatalA7
  | fatalA8 | fatalA9 | fatalAA | fatalAB | fatalAC | fatalAD | fatalAE | fatalAF
  | fatalB0 | fatalB1 | fatalB2 | fatalB3 | fatalB4 | fatalB5 | fatalB6 | fatalB7
  | fatalBE | fatalC0 | fatalC2 | fatalC3 | fatalC4 | fatalC6 | fatalC7 | fatalC8
  | fatalC9 | fatalCA | fatalCB | fatalCC | fatalCD | fatalCE | fatalCF | fatalD0
  | fatalD2 | fatalD3 | fatalD4 | fatalD6 | fatalD7 | fatalD8 | fatalD9 | fatalDA
  | fatalDB | fatalDC | fatalDD | fatalDE | fatalDF | fatalE0 | fatalE2 | fatalE3
  | fatalE4 | fatalE6 | fatalE7 | fatalE8 | fatalE9 | fatalEA | fatalEB | fatalEC
  | fatalED | fatalEE | fatalEF | fatalF0 | fatalF2 | fatalF3 | fatalF4 | fatalF6
  | fatalF7 | fatalF8 | fatalF9 | fatalFB | fatalFC | fatalFD | fatalFE | fatalFF
  deriving DecidableEq, Repr

end Sys2Proof
end

