-- ==== Sys2Proof/WellFormed.lean ====
section
/-! DEFINITION. Well-formedness. An `Instr` term carries its one operand at the width the encoding gives it (a 16-bit
`nn`, R70), so every term is encodable and no check on terms remains (log 13). What can be ill-formed is the code an
instruction is read from, checked by 30_encoding.md R68's length rule, and a choice of parameters, checked by the table of
open parameters of 92_eei_decisions.md (each cost at least 1). -/

namespace Sys2Proof

/-- The length in bytes of the instruction an opcode byte begins (R68): 3 for 0xFA, 1 for every other opcode, admitted
or not. -/
def lengthOfOpcode (op : Byte) : Nat := if op = 0xFA then 3 else 1

/-- A list of bytes is the code of exactly one instruction: it has an opcode byte, and as many bytes as that opcode alone
fixes (R68). -/
def codeWellFormed : List Byte → Bool
  | [] => false
  | op :: operand => operand.length + 1 == lengthOfOpcode op

/-- The parameters are in their declared ranges: the cycle costs are naturals of at least 1 (92, open parameters). Every
other parameter's range is its type. -/
def Config.wellFormed (c : Config) : Bool :=
  decide (1 ≤ c.cycAdd) && decide (1 ≤ c.cycCp) && decide (1 ≤ c.cycPush) && decide (1 ≤ c.cycPop) &&
    decide (1 ≤ c.cycLdamm)

end Sys2Proof
end

