-- ==== Sys2Proof/Decode.lean ====
section
/-! DEFINITION. The decoder: the 256-entry dispatch table of 30_encoding.md R73 and R74, laid out as R74's map (a row is the
high nibble of the opcode, a column its low nibble), and the encoder, written from the field tables R69 to R72. -/

namespace Sys2Proof

/-- One entry of the dispatch table: an opcode that is the whole instruction (format O, R69), or the opcode of
LD A,(nn), which is followed by a 16-bit operand (format I16, R70). No entry is absent (R73). -/
inductive TableEntry where
  | formatO (i : Instr)
  | formatI16
  deriving DecidableEq, Repr

/-- One row of the opcode map: the sixteen entries of one high nibble. -/
abbrev TableRow := Vector TableEntry 16

/-- Row 0x of the map of R74. -/
def tableRow0 : TableRow :=
  #v[.formatO .nop, .formatO .fatal01, .formatO .fatal02, .formatO .fatal03,
    .formatO .fatal04, .formatO .fatal05, .formatO .fatal06, .formatO .fatal07,
    .formatO .fatal08, .formatO .fatal09, .formatO .fatal0A, .formatO .fatal0B,
    .formatO .fatal0C, .formatO .fatal0D, .formatO .fatal0E, .formatO .fatal0F]

/-- Row 1x of the map of R74. -/
def tableRow1 : TableRow :=
  #v[.formatO .fatal10, .formatO .fatal11, .formatO .fatal12, .formatO .fatal13,
    .formatO .fatal14, .formatO .fatal15, .formatO .fatal16, .formatO .fatal17,
    .formatO .fatal18, .formatO .fatal19, .formatO .fatal1A, .formatO .fatal1B,
    .formatO .fatal1C, .formatO .fatal1D, .formatO .fatal1E, .formatO .fatal1F]

/-- Row 2x of the map of R74. -/
def tableRow2 : TableRow :=
  #v[.formatO .fatal20, .formatO .fatal21, .formatO .fatal22, .formatO .fatal23,
    .formatO .fatal24, .formatO .fatal25, .formatO .fatal26, .formatO .fatal27,
    .formatO .fatal28, .formatO .fatal29, .formatO .fatal2A, .formatO .fatal2B,
    .formatO .fatal2C, .formatO .fatal2D, .formatO .fatal2E, .formatO .fatal2F]

/-- Row 3x of the map of R74. -/
def tableRow3 : TableRow :=
  #v[.formatO .fatal30, .formatO .fatal31, .formatO .fatal32, .formatO .fatal33,
    .formatO .fatal34, .formatO .fatal35, .formatO .fatal36, .formatO .fatal37,
    .formatO .fatal38, .formatO .fatal39, .formatO .fatal3A, .formatO .fatal3B,
    .formatO .fatal3C, .formatO .fatal3D, .formatO .fatal3E, .formatO .fatal3F]

/-- Row 4x of the map of R74. -/
def tableRow4 : TableRow :=
  #v[.formatO .fatal40, .formatO .fatal41, .formatO .fatal42, .formatO .fatal43,
    .formatO .fatal44, .formatO .fatal45, .formatO .fatal46, .formatO .fatal47,
    .formatO .fatal48, .formatO .fatal49, .formatO .fatal4A, .formatO .fatal4B,
    .formatO .fatal4C, .formatO .fatal4D, .formatO .fatal4E, .formatO .fatal4F]

/-- Row 5x of the map of R74. -/
def tableRow5 : TableRow :=
  #v[.formatO .fatal50, .formatO .fatal51, .formatO .fatal52, .formatO .fatal53,
    .formatO .fatal54, .formatO .fatal55, .formatO .fatal56, .formatO .fatal57,
    .formatO .fatal58, .formatO .fatal59, .formatO .fatal5A, .formatO .fatal5B,
    .formatO .fatal5C, .formatO .fatal5D, .formatO .fatal5E, .formatO .fatal5F]

/-- Row 6x of the map of R74. -/
def tableRow6 : TableRow :=
  #v[.formatO .fatal60, .formatO .fatal61, .formatO .fatal62, .formatO .fatal63,
    .formatO .fatal64, .formatO .fatal65, .formatO .fatal66, .formatO .fatal67,
    .formatO .fatal68, .formatO .fatal69, .formatO .fatal6A, .formatO .fatal6B,
    .formatO .fatal6C, .formatO .fatal6D, .formatO .fatal6E, .formatO .fatal6F]

/-- Row 7x of the map of R74. -/
def tableRow7 : TableRow :=
  #v[.formatO .fatal70, .formatO .fatal71, .formatO .fatal72, .formatO .fatal73,
    .formatO .fatal74, .formatO .fatal75, .formatO .fatal76, .formatO .fatal77,
    .formatO .fatal78, .formatO .fatal79, .formatO .fatal7A, .formatO .fatal7B,
    .formatO .fatal7C, .formatO .fatal7D, .formatO .fatal7E, .formatO .fatal7F]

/-- Row 8x of the map of R74. -/
def tableRow8 : TableRow :=
  #v[.formatO .addAB, .formatO .addAC, .formatO .addAD, .formatO .addAE,
    .formatO .addAH, .formatO .addAL, .formatO .fatal86, .formatO .addAA,
    .formatO .fatal88, .formatO .fatal89, .formatO .fatal8A, .formatO .fatal8B,
    .formatO .fatal8C, .formatO .fatal8D, .formatO .fatal8E, .formatO .fatal8F]

/-- Row 9x of the map of R74. -/
def tableRow9 : TableRow :=
  #v[.formatO .fatal90, .formatO .fatal91, .formatO .fatal92, .formatO .fatal93,
    .formatO .fatal94, .formatO .fatal95, .formatO .fatal96, .formatO .fatal97,
    .formatO .fatal98, .formatO .fatal99, .formatO .fatal9A, .formatO .fatal9B,
    .formatO .fatal9C, .formatO .fatal9D, .formatO .fatal9E, .formatO .fatal9F]

/-- Row Ax of the map of R74. -/
def tableRowA : TableRow :=
  #v[.formatO .fatalA0, .formatO .fatalA1, .formatO .fatalA2, .formatO .fatalA3,
    .formatO .fatalA4, .formatO .fatalA5, .formatO .fatalA6, .formatO .fatalA7,
    .formatO .fatalA8, .formatO .fatalA9, .formatO .fatalAA, .formatO .fatalAB,
    .formatO .fatalAC, .formatO .fatalAD, .formatO .fatalAE, .formatO .fatalAF]

/-- Row Bx of the map of R74. -/
def tableRowB : TableRow :=
  #v[.formatO .fatalB0, .formatO .fatalB1, .formatO .fatalB2, .formatO .fatalB3,
    .formatO .fatalB4, .formatO .fatalB5, .formatO .fatalB6, .formatO .fatalB7,
    .formatO .cpB, .formatO .cpC, .formatO .cpD, .formatO .cpE,
    .formatO .cpH, .formatO .cpL, .formatO .fatalBE, .formatO .cpA]

/-- Row Cx of the map of R74. -/
def tableRowC : TableRow :=
  #v[.formatO .fatalC0, .formatO .popBC, .formatO .fatalC2, .formatO .fatalC3,
    .formatO .fatalC4, .formatO .pushBC, .formatO .fatalC6, .formatO .fatalC7,
    .formatO .fatalC8, .formatO .fatalC9, .formatO .fatalCA, .formatO .fatalCB,
    .formatO .fatalCC, .formatO .fatalCD, .formatO .fatalCE, .formatO .fatalCF]

/-- Row Dx of the map of R74. -/
def tableRowD : TableRow :=
  #v[.formatO .fatalD0, .formatO .popDE, .formatO .fatalD2, .formatO .fatalD3,
    .formatO .fatalD4, .formatO .pushDE, .formatO .fatalD6, .formatO .fatalD7,
    .formatO .fatalD8, .formatO .fatalD9, .formatO .fatalDA, .formatO .fatalDB,
    .formatO .fatalDC, .formatO .fatalDD, .formatO .fatalDE, .formatO .fatalDF]

/-- Row Ex of the map of R74. -/
def tableRowE : TableRow :=
  #v[.formatO .fatalE0, .formatO .popHL, .formatO .fatalE2, .formatO .fatalE3,
    .formatO .fatalE4, .formatO .pushHL, .formatO .fatalE6, .formatO .fatalE7,
    .formatO .fatalE8, .formatO .fatalE9, .formatO .fatalEA, .formatO .fatalEB,
    .formatO .fatalEC, .formatO .fatalED, .formatO .fatalEE, .formatO .fatalEF]

/-- Row Fx of the map of R74. -/
def tableRowF : TableRow :=
  #v[.formatO .fatalF0, .formatO .popAF, .formatO .fatalF2, .formatO .fatalF3,
    .formatO .fatalF4, .formatO .pushAF, .formatO .fatalF6, .formatO .fatalF7,
    .formatO .fatalF8, .formatO .fatalF9, .formatI16, .formatO .fatalFB,
    .formatO .fatalFC, .formatO .fatalFD, .formatO .fatalFE, .formatO .fatalFF]

/-- The dispatch table DT (R73): fixed and complete. -/
def dispatchTable : Vector TableRow 16 :=
  #v[tableRow0, tableRow1, tableRow2, tableRow3, tableRow4, tableRow5, tableRow6, tableRow7,
    tableRow8, tableRow9, tableRowA, tableRowB, tableRowC, tableRowD, tableRowE, tableRowF]

/-- The entry DT[op]: row op[7:4], column op[3:0]. -/
def dispatchEntry (op : Byte) : TableEntry :=
  (dispatchTable[(op.extractLsb' 4 4).toNat]'(BitVec.isLt _))[(op.extractLsb' 0 4).toNat]'(BitVec.isLt _)

/-- `nn = {byte2, byte1}`: the operand's high byte is the later one (R42, R70). -/
def joinBytes (hi lo : Byte) : Word := hi ++ lo

/-- Why a list of bytes is no instruction. Every opcode byte is one (R73), so only missing bytes can be the reason. -/
inductive DecodeError where
  /-- There is no opcode byte. -/
  | noOpcode
  /-- The opcode is LD A,(nn) and an operand byte is missing. -/
  | missingOperand
  deriving DecidableEq, Repr

/-- Read one instruction from the front of a list of bytes; answer it with the bytes that follow it. The opcode alone
decides how many bytes are read (R68). -/
def decode : List Byte → Except DecodeError (Instr × List Byte)
  | [] => .error .noOpcode
  | op :: rest =>
    match dispatchEntry op with
    | .formatO i => .ok (i, rest)
    | .formatI16 =>
      match rest with
      | lo :: hi :: rest' => .ok (.ldAnn (joinBytes hi lo), rest')
      | _ => .error .missingOperand

/-- The low byte of an operand address (R70, byte 1). -/
def lowByte (w : Word) : Byte := w.extractLsb' 0 8

/-- The high byte of an operand address (R70, byte 2). -/
def highByte (w : Word) : Byte := w.extractLsb' 8 8

/-- The bytes of an instruction, lowest address first. The admitted ones are written as the fields of R69 to R72, the
unimplemented ones as their byte (R75). -/
def encode : Instr → List Byte
  | .nop => [0b00000000]
  | .addAB => [0b10000000]
  | .addAC => [0b10000001]
  | .addAD => [0b10000010]
  | .addAE => [0b10000011]
  | .addAH => [0b10000100]
  | .addAL => [0b10000101]
  | .addAA => [0b10000111]
  | .cpB => [0b10111000]
  | .cpC => [0b10111001]
  | .cpD => [0b10111010]
  | .cpE => [0b10111011]
  | .cpH => [0b10111100]
  | .cpL => [0b10111101]
  | .cpA => [0b10111111]
  | .popBC => [0b11000001]
  | .pushBC => [0b11000101]
  | .popDE => [0b11010001]
  | .pushDE => [0b11010101]
  | .popHL => [0b11100001]
  | .pushHL => [0b11100101]
  | .popAF => [0b11110001]
  | .pushAF => [0b11110101]
  | .ldAnn nn => [0xFA, lowByte nn, highByte nn]
  | .fatal01 => [0x01]
  | .fatal02 => [0x02]
  | .fatal03 => [0x03]
  | .fatal04 => [0x04]
  | .fatal05 => [0x05]
  | .fatal06 => [0x06]
  | .fatal07 => [0x07]
  | .fatal08 => [0x08]
  | .fatal09 => [0x09]
  | .fatal0A => [0x0A]
  | .fatal0B => [0x0B]
  | .fatal0C => [0x0C]
  | .fatal0D => [0x0D]
  | .fatal0E => [0x0E]
  | .fatal0F => [0x0F]
  | .fatal10 => [0x10]
  | .fatal11 => [0x11]
  | .fatal12 => [0x12]
  | .fatal13 => [0x13]
  | .fatal14 => [0x14]
  | .fatal15 => [0x15]
  | .fatal16 => [0x16]
  | .fatal17 => [0x17]
  | .fatal18 => [0x18]
  | .fatal19 => [0x19]
  | .fatal1A => [0x1A]
  | .fatal1B => [0x1B]
  | .fatal1C => [0x1C]
  | .fatal1D => [0x1D]
  | .fatal1E => [0x1E]
  | .fatal1F => [0x1F]
  | .fatal20 => [0x20]
  | .fatal21 => [0x21]
  | .fatal22 => [0x22]
  | .fatal23 => [0x23]
  | .fatal24 => [0x24]
  | .fatal25 => [0x25]
  | .fatal26 => [0x26]
  | .fatal27 => [0x27]
  | .fatal28 => [0x28]
  | .fatal29 => [0x29]
  | .fatal2A => [0x2A]
  | .fatal2B => [0x2B]
  | .fatal2C => [0x2C]
  | .fatal2D => [0x2D]
  | .fatal2E => [0x2E]
  | .fatal2F => [0x2F]
  | .fatal30 => [0x30]
  | .fatal31 => [0x31]
  | .fatal32 => [0x32]
  | .fatal33 => [0x33]
  | .fatal34 => [0x34]
  | .fatal35 => [0x35]
  | .fatal36 => [0x36]
  | .fatal37 => [0x37]
  | .fatal38 => [0x38]
  | .fatal39 => [0x39]
  | .fatal3A => [0x3A]
  | .fatal3B => [0x3B]
  | .fatal3C => [0x3C]
  | .fatal3D => [0x3D]
  | .fatal3E => [0x3E]
  | .fatal3F => [0x3F]
  | .fatal40 => [0x40]
  | .fatal41 => [0x41]
  | .fatal42 => [0x42]
  | .fatal43 => [0x43]
  | .fatal44 => [0x44]
  | .fatal45 => [0x45]
  | .fatal46 => [0x46]
  | .fatal47 => [0x47]
  | .fatal48 => [0x48]
  | .fatal49 => [0x49]
  | .fatal4A => [0x4A]
  | .fatal4B => [0x4B]
  | .fatal4C => [0x4C]
  | .fatal4D => [0x4D]
  | .fatal4E => [0x4E]
  | .fatal4F => [0x4F]
  | .fatal50 => [0x50]
  | .fatal51 => [0x51]
  | .fatal52 => [0x52]
  | .fatal53 => [0x53]
  | .fatal54 => [0x54]
  | .fatal55 => [0x55]
  | .fatal56 => [0x56]
  | .fatal57 => [0x57]
  | .fatal58 => [0x58]
  | .fatal59 => [0x59]
  | .fatal5A => [0x5A]
  | .fatal5B => [0x5B]
  | .fatal5C => [0x5C]
  | .fatal5D => [0x5D]
  | .fatal5E => [0x5E]
  | .fatal5F => [0x5F]
  | .fatal60 => [0x60]
  | .fatal61 => [0x61]
  | .fatal62 => [0x62]
  | .fatal63 => [0x63]
  | .fatal64 => [0x64]
  | .fatal65 => [0x65]
  | .fatal66 => [0x66]
  | .fatal67 => [0x67]
  | .fatal68 => [0x68]
  | .fatal69 => [0x69]
  | .fatal6A => [0x6A]
  | .fatal6B => [0x6B]
  | .fatal6C => [0x6C]
  | .fatal6D => [0x6D]
  | .fatal6E => [0x6E]
  | .fatal6F => [0x6F]
  | .fatal70 => [0x70]
  | .fatal71 => [0x71]
  | .fatal72 => [0x72]
  | .fatal73 => [0x73]
  | .fatal74 => [0x74]
  | .fatal75 => [0x75]
  | .fatal76 => [0x76]
  | .fatal77 => [0x77]
  | .fatal78 => [0x78]
  | .fatal79 => [0x79]
  | .fatal7A => [0x7A]
  | .fatal7B => [0x7B]
  | .fatal7C => [0x7C]
  | .fatal7D => [0x7D]
  | .fatal7E => [0x7E]
  | .fatal7F => [0x7F]
  | .fatal86 => [0x86]
  | .fatal88 => [0x88]
  | .fatal89 => [0x89]
  | .fatal8A => [0x8A]
  | .fatal8B => [0x8B]
  | .fatal8C => [0x8C]
  | .fatal8D => [0x8D]
  | .fatal8E => [0x8E]
  | .fatal8F => [0x8F]
  | .fatal90 => [0x90]
  | .fatal91 => [0x91]
  | .fatal92 => [0x92]
  | .fatal93 => [0x93]
  | .fatal94 => [0x94]
  | .fatal95 => [0x95]
  | .fatal96 => [0x96]
  | .fatal97 => [0x97]
  | .fatal98 => [0x98]
  | .fatal99 => [0x99]
  | .fatal9A => [0x9A]
  | .fatal9B => [0x9B]
  | .fatal9C => [0x9C]
  | .fatal9D => [0x9D]
  | .fatal9E => [0x9E]
  | .fatal9F => [0x9F]
  | .fatalA0 => [0xA0]
  | .fatalA1 => [0xA1]
  | .fatalA2 => [0xA2]
  | .fatalA3 => [0xA3]
  | .fatalA4 => [0xA4]
  | .fatalA5 => [0xA5]
  | .fatalA6 => [0xA6]
  | .fatalA7 => [0xA7]
  | .fatalA8 => [0xA8]
  | .fatalA9 => [0xA9]
  | .fatalAA => [0xAA]
  | .fatalAB => [0xAB]
  | .fatalAC => [0xAC]
  | .fatalAD => [0xAD]
  | .fatalAE => [0xAE]
  | .fatalAF => [0xAF]
  | .fatalB0 => [0xB0]
  | .fatalB1 => [0xB1]
  | .fatalB2 => [0xB2]
  | .fatalB3 => [0xB3]
  | .fatalB4 => [0xB4]
  | .fatalB5 => [0xB5]
  | .fatalB6 => [0xB6]
  | .fatalB7 => [0xB7]
  | .fatalBE => [0xBE]
  | .fatalC0 => [0xC0]
  | .fatalC2 => [0xC2]
  | .fatalC3 => [0xC3]
  | .fatalC4 => [0xC4]
  | .fatalC6 => [0xC6]
  | .fatalC7 => [0xC7]
  | .fatalC8 => [0xC8]
  | .fatalC9 => [0xC9]
  | .fatalCA => [0xCA]
  | .fatalCB => [0xCB]
  | .fatalCC => [0xCC]
  | .fatalCD => [0xCD]
  | .fatalCE => [0xCE]
  | .fatalCF => [0xCF]
  | .fatalD0 => [0xD0]
  | .fatalD2 => [0xD2]
  | .fatalD3 => [0xD3]
  | .fatalD4 => [0xD4]
  | .fatalD6 => [0xD6]
  | .fatalD7 => [0xD7]
  | .fatalD8 => [0xD8]
  | .fatalD9 => [0xD9]
  | .fatalDA => [0xDA]
  | .fatalDB => [0xDB]
  | .fatalDC => [0xDC]
  | .fatalDD => [0xDD]
  | .fatalDE => [0xDE]
  | .fatalDF => [0xDF]
  | .fatalE0 => [0xE0]
  | .fatalE2 => [0xE2]
  | .fatalE3 => [0xE3]
  | .fatalE4 => [0xE4]
  | .fatalE6 => [0xE6]
  | .fatalE7 => [0xE7]
  | .fatalE8 => [0xE8]
  | .fatalE9 => [0xE9]
  | .fatalEA => [0xEA]
  | .fatalEB => [0xEB]
  | .fatalEC => [0xEC]
  | .fatalED => [0xED]
  | .fatalEE => [0xEE]
  | .fatalEF => [0xEF]
  | .fatalF0 => [0xF0]
  | .fatalF2 => [0xF2]
  | .fatalF3 => [0xF3]
  | .fatalF4 => [0xF4]
  | .fatalF6 => [0xF6]
  | .fatalF7 => [0xF7]
  | .fatalF8 => [0xF8]
  | .fatalF9 => [0xF9]
  | .fatalFB => [0xFB]
  | .fatalFC => [0xFC]
  | .fatalFD => [0xFD]
  | .fatalFE => [0xFE]
  | .fatalFF => [0xFF]

/-- The length of an instruction in bytes (R68): 3 for LD A,(nn), 1 for every other. -/
def instrLength (i : Instr) : Nat := (encode i).length

/-- The instruction the decoder reads from an instruction whose bits are `w`, numbered with bit 0 the least significant
bit of the first byte; the bits above `nbits` are 0. Three bytes are laid out, the longest instruction (R68). -/
def decodeTableWord (nbits w : Nat) : Option Instr :=
  let bits := w % 2 ^ nbits
  match decode [BitVec.ofNat 8 bits, BitVec.ofNat 8 (bits / 2 ^ 8), BitVec.ofNat 8 (bits / 2 ^ 16)] with
  | .ok (i, _) => some i
  | .error _ => none

end Sys2Proof
end

