-- ==== Sys2Proof/Machine/State.lean ====
section
/-! DEFINITION. The state of the block (10_state.md), one record for each of its three units (00_scope.md R5), and the
value reset gives it (70_reset_and_hazards.md R150). Everything is plain data. -/

namespace Sys2Proof.Machine

/-- A byte store (10_state.md R30): the listed (offset, byte) pairs, offsets strictly rising, no listed byte 0x00. An
offset that is not listed reads 0x00: the value every writable store has after reset (R30). -/
abbrev Memory := List Host.Cell

/-- The four display modes (10_state.md R31). -/
inductive Mode where
  /-- 0, horizontal blanking. -/
  | hblank
  /-- 1, vertical blanking. -/
  | vblank
  /-- 2, the first phase of a visible line. -/
  | oamScan
  /-- 3, the second phase of a visible line; the line is rasterized on exit. -/
  | vramScan
  deriving DecidableEq, Repr

/-- One decoded tile row: 8 color indices, column 0 the leftmost pixel (R37). -/
abbrev TileRow := Vector (BitVec 2) 8

/-- The tile cache TC[tile][row][col] (R37). -/
abbrev TileCache := Vector (Vector TileRow 8) 384

/-- One framebuffer row, FB[y]. -/
abbrev PixelRow := Vector Rgba 160

/-- The framebuffer FB[y][x] (R38). -/
abbrev FrameBuffer := Vector PixelRow 144

/-- The InstructionProcessor: the register file (R17), the flag register (R19), pc and sp (R25, R26), the cycle counters
(R27) and the fatal-status record (R28). -/
structure Cpu where
  a : Byte
  b : Byte
  c : Byte
  d : Byte
  e : Byte
  h : Byte
  l : Byte
  f : Byte
  pc : Word
  sp : Word
  clkM : Nat
  clkT : Nat
  stopped : Bool
  faultOpcode : Byte
  faultPc : Word
  deriving DecidableEq, Repr

/-- The MemoryBus: the bootstrap bit (R29) and the five stores it owns (R30). -/
structure Bus where
  inboot : Bool
  bootRom : Memory
  cart : Memory
  cartLen : Nat
  wram : Memory
  eram : Memory
  zram : Memory
  deriving DecidableEq, Repr

/-- The DisplayController: its two stores (R30), the timing state (R31 to R33), the configuration registers (R34 to R36),
the tile cache (R37) and the framebuffer (R38). `presents` is the output record that 50_display.md R125 asks of a model:
the frames handed to the host, oldest first (log 10). -/
structure Display where
  vram : Memory
  oam : Memory
  mode : Mode
  modeclock : Nat
  line : Nat
  scx : Byte
  scy : Byte
  bgmapSel : Bool
  tilesetSel : Bool
  palette : Palette
  tc : TileCache
  fb : FrameBuffer
  presents : List FrameBuffer
  deriving DecidableEq, Repr

/-- The whole block, with the parameters of 00_scope.md R12 it was built with (log 4). No instruction writes `cfg`. -/
structure State where
  cpu : Cpu
  bus : Bus
  lcd : Display
  cfg : Config
  deriving DecidableEq, Repr

/-- Why the machine stops. -/
inductive Fault where
  /-- Raised by `step` alone, on a state whose fatal-status record is set (30_encoding.md R80, 60_exceptions.md R139): the
  step changes no state and hands the host the record. Safe: the spec names exactly this stop. -/
  | stopped (opcode : Byte) (pc : Word)
  deriving DecidableEq, Repr

/-- Why the model gives no next state. -/
inductive Refusal where
  /-- An instruction whose arm has no meaning yet. Safe. No arm raises it: every instruction is modelled. -/
  | notModelled (mnemonic : String)
  /-- Raised by `step` if the fetched bytes were no instruction. Safe. It cannot happen: the fetch reads as many bytes
  as the opcode asks for (Laws, `decode_fetchBytes`). -/
  | undecodable (reason : DecodeError)
  /-- Raised by the host operation `loadCartridge` once a step has been taken since reset: the host has no such move
  (70_reset_and_hazards.md R154; 93_implementation_defined.md, 14). Safe. -/
  | loadDuringRun
  deriving DecidableEq, Repr

/-- A tile cache of all zeros (R37). -/
def TileCache.zero : TileCache := Vector.replicate 384 (Vector.replicate 8 (Vector.replicate 8 0))

/-- The state that reset leaves (70_reset_and_hazards.md R150), given what reset does not change: the parameters, the
bootstrap ROM, the cartridge image and its length, and the record of frames already handed to the host. -/
def State.resetWith (cfg : Config) (bootRom cart : Memory) (cartLen : Nat) (presents : List FrameBuffer) : State where
  cpu :=
    { a := 0, b := 0, c := 0, d := 0, e := 0, h := 0, l := 0, f := 0
      pc := 0x0000, sp := 0x0000
      clkM := 0, clkT := 0
      stopped := false, faultOpcode := 0x00, faultPc := 0x0000 }
  bus :=
    { inboot := cfg.bootAtReset
      bootRom := bootRom, cart := cart, cartLen := cartLen
      wram := [], eram := [], zram := [] }
  lcd :=
    { vram := [], oam := []
      mode := .oamScan, modeclock := 0, line := 0
      scx := cfg.resetScx, scy := cfg.resetScy
      bgmapSel := cfg.resetBgmapSel, tilesetSel := cfg.resetTilesetSel
      palette := cfg.palette
      tc := TileCache.zero
      fb := Vector.replicate 144 (Vector.replicate 160 cfg.fbResetPixel)
      presents := presents }
  cfg := cfg

/-- The machine right after power-on reset, before the host has supplied anything: the default parameters of R12, a
bootstrap ROM of 0x00 bytes (DESIGN CHOICE, unsafe, log 2), no cartridge image (DESIGN CHOICE, unsafe, log 3), and no
frame handed out (log 10). -/
def State.reset : State := State.resetWith Config.defaults [] [] 0 []

end Sys2Proof.Machine
end

