-- ==== Sys2Proof/Machine/Memory.lean ====
section
/-! DEFINITION. Reading and writing one byte of a byte store (10_state.md R30), and the canonical form every store keeps.
Which store an address selects is the bus's decision (Machine/Ops.lean), not made here. -/

namespace Sys2Proof.Machine

/-- The byte at offset `k`; an offset that is not listed reads 0x00 (R30: every store is zeroed on reset). -/
def Memory.read : Memory → Nat → Byte
  | [], _ => 0x00
  | (k', v) :: rest, k => if k = k' then v else Memory.read rest k

/-- Store `v` at offset `k`, keeping the canonical form: a 0x00 is stored by listing nothing. -/
def Memory.write : Memory → Nat → Byte → Memory
  | [], k, v => if v = 0x00 then [] else [(k, v)]
  | (k', v') :: rest, k, v =>
    if k < k' then
      if v = 0x00 then (k', v') :: rest else (k, v) :: (k', v') :: rest
    else if k = k' then
      if v = 0x00 then rest else (k, v) :: rest
    else (k', v') :: Memory.write rest k v

/-- The canonical form of a store of `size` bytes: listed offsets strictly rising and below `size`, no listed 0x00. -/
def Memory.wf (size : Nat) : Memory → Bool
  | [] => true
  | (k, v) :: rest =>
    decide (k < size) && decide (v ≠ 0x00) && rest.all (fun cell => decide (k < cell.1)) && Memory.wf size rest

/-- The store that holds an ordered byte sequence at offsets `k`, `k + 1`, … (20_memory.md R58). -/
def Memory.ofBytes : Nat → List Byte → Memory
  | _, [] => []
  | k, v :: rest => if v = 0x00 then Memory.ofBytes (k + 1) rest else (k, v) :: Memory.ofBytes (k + 1) rest

end Sys2Proof.Machine
end

