-- ==== Sys2Proof/Machine/Display.lean ====
section
/-! DEFINITION. The DisplayController (50_display.md): the tile cache and its refresh, the background rasterizer, the
scanline state machine, and the two ports it has towards the rest of the block, video-memory accesses from the bus
(00_scope.md R7) and ticks from the CPU (R8). OAM is storage only, and no other layer exists (R133). -/

namespace Sys2Proof.Machine

/-- The color index of column `col` of a tile row with low plane `lo` and high plane `hi` (R126). -/
def colorIndex (lo hi : Byte) (col : Nat) : BitVec 2 :=
  BitVec.ofNat 2 (((lo >>> (7 - col)) &&& 1).toNat + 2 * ((hi >>> (7 - col)) &&& 1).toNat)

/-- `decode(lo, hi)` of R126. -/
def decodeRow (lo hi : Byte) : TileRow := Vector.ofFn fun col : Fin 8 => colorIndex lo hi col

/-- `updateTile(off)` of R127: rewrite the 8 entries of the one tile row whose byte pair holds `off`; in the tile-map area
nothing changes. `2 * (off / 2)` is the even offset `off & 0x1FFE`, `off / 16` is `off >> 4`, `off / 2 % 8` is
`(off >> 1) & 7`. -/
def updateTile (off : Nat) (d : Display) : Display :=
  if h : off < 0x1800 then
    let base := 2 * (off / 2)
    let row := decodeRow (Memory.read d.vram base) (Memory.read d.vram (base + 1))
    { d with tc := d.tc.set (off / 16) ((d.tc[off / 16]'(by omega)).set (off / 2 % 8) row (by omega)) (by omega) }
  else d

/-- `vram_read(off13)` (00_scope.md R7): no side effect, in every mode (20_memory.md R49). -/
def vramRead (d : Display) (off : Nat) : Byte := Memory.read d.vram off

/-- `vram_write(off13, byte)` (00_scope.md R7): the byte is stored and then its tile row refreshed (20_memory.md R49). -/
def vramWrite (d : Display) (off : Nat) (v : Byte) : Display :=
  updateTile off { d with vram := Memory.write d.vram off v }

/-- `oam_read(off8)` (00_scope.md R7; 20_memory.md R52). -/
def oamRead (d : Display) (off : Nat) : Byte := Memory.read d.oam off

/-- `oam_write(off8, byte)` (00_scope.md R7): storage only (20_memory.md R52). -/
def oamWrite (d : Display) (off : Nat) (v : Byte) : Display := { d with oam := Memory.write d.oam off v }

/-- The VRAM offset of the selected tile-map table (R128). -/
def mapBase (bgmapSel : Bool) : Nat := if bgmapSel then 0x1C00 else 0x1800

/-- The tile-cache index of a raw tile-map byte (R129). -/
def tileIndex (tilesetSel : Bool) (raw : Byte) : Fin 384 :=
  if h : tilesetSel = true ∧ raw.toNat < 128 then ⟨raw.toNat + 256, by omega⟩
  else ⟨raw.toNat, by have := raw.isLt; omega⟩

/-- The tile shown at a tile-map row and column (R128, R129): map entries are one byte, 32 to a row. -/
def mapTile (d : Display) (mrow col : BitVec 5) : Fin 384 :=
  tileIndex d.tilesetSel (vramRead d (mapBase d.bgmapSel + 32 * mrow.toNat + col.toNat))

/-- The RGBA value of a color index (R131). -/
def paletteColor (p : Palette) (ci : BitVec 2) : Rgba := p[ci.toNat]'(BitVec.isLt ci)

/-- The pixel loop of R130, from pixel `x` on, with `n` pixels left: `tx` is the column within tile `t`, `col` the tile's
map column. Crossing a tile boundary resolves the next map column, wrapping at 32. -/
def renderPixels (d : Display) (mrow : BitVec 5) (ty : Fin 8) :
    (n x : Nat) → (tx : Fin 8) → (col : BitVec 5) → (t : Fin 384) → PixelRow → PixelRow
  | 0, _, _, _, _, row => row
  | n + 1, x, tx, col, t, row =>
    let row' := row.setIfInBounds x (paletteColor d.palette ((d.tc[t][ty])[tx]))
    if h : tx.val + 1 < 8 then renderPixels d mrow ty n (x + 1) ⟨tx.val + 1, h⟩ col t row'
    else renderPixels d mrow ty n (x + 1) 0 (col + 1) (mapTile d mrow (col + 1)) row'

/-- The 3-bit row or column of a pixel within its tile. -/
def withinTile (v : Byte) : Fin 8 := (v.extractLsb' 0 3).toFin

/-- The 5-bit tile-map row or column of a background coordinate. -/
def mapIndex (v : Byte) : BitVec 5 := v.extractLsb' 3 5

/-- `renderScan()` of R130 for the current line: all 160 pixels of framebuffer row `line`, and no other row (R132). The
timing calls it on lines 0..142 only (R123); a line the framebuffer has no row for draws nothing (log 12). -/
def renderScan (d : Display) : Display :=
  if h : d.line < 144 then
    let bgy := BitVec.ofNat 8 (d.line + d.scy.toNat)
    let mrow := mapIndex bgy
    let col := mapIndex d.scx
    let row := renderPixels d mrow (withinTile bgy) 160 0 (withinTile d.scx) col (mapTile d mrow col) d.fb[d.line]
    { d with fb := d.fb.set d.line row h }
  else d

/-- The ticks a mode lasts (R116). -/
def threshold : Mode → Nat
  | .oamScan => 80
  | .vramScan => 172
  | .hblank => 204
  | .vblank => 456

/-- `present(copy of FB)` (R125): the frame joins the record of frames handed to the host. -/
def present (d : Display) : Display := { d with presents := d.presents ++ [d.fb] }

/-- Leaving OAM-scan (R119). -/
def leaveOamScan (d : Display) : Display := { d with mode := .vramScan }

/-- Leaving VRAM-scan (R120): the line is rasterized, then HBlank begins. -/
def leaveVramScan (d : Display) : Display := { renderScan d with mode := .hblank }

/-- Leaving HBlank (R121): the next line; at line 143 the frame is presented and VBlank begins. -/
def leaveHblank (d : Display) : Display :=
  if d.line + 1 = 143 then { present { d with line := d.line + 1 } with mode := .vblank }
  else { d with line := d.line + 1, mode := .oamScan }

/-- The end of a VBlank line (R122): the next line; past line 153, line 0 and OAM-scan. -/
def leaveVblankLine (d : Display) : Display :=
  if d.line + 1 > 153 then { d with line := 0, mode := .oamScan }
  else { d with line := d.line + 1 }

/-- `transition(mode)` (R119 to R122). -/
def transition (d : Display) : Display :=
  match d.mode with
  | .oamScan => leaveOamScan d
  | .vramScan => leaveVramScan d
  | .hblank => leaveHblank d
  | .vblank => leaveVblankLine d

/-- The loop of R117 (OVERSHOOT_MODE = CARRY): while the mode clock has reached the threshold, consume the threshold and
take the transition. `fuel` bounds the number of passes; each pass consumes at least 80 ticks, so the mode clock itself
is bound enough (log 9). -/
def carryLoop : (fuel : Nat) → Display → Display
  | 0, d => d
  | fuel + 1, d =>
    if d.modeclock < threshold d.mode then d
    else carryLoop fuel (transition { d with modeclock := d.modeclock - threshold d.mode })

/-- `display_step(ticks)` of R117, OVERSHOOT_MODE = CARRY. -/
def displayStepCarry (ticks : Nat) (d : Display) : Display :=
  carryLoop (d.modeclock + ticks) { d with modeclock := d.modeclock + ticks }

/-- `display_step(ticks)` of R118, OVERSHOOT_MODE = DISCARD: at most one transition, the overshoot dropped. -/
def displayStepDiscard (ticks : Nat) (d : Display) : Display :=
  if d.modeclock + ticks ≥ threshold d.mode then transition { d with modeclock := 0 }
  else { d with modeclock := d.modeclock + ticks }

/-- `display_step(ticks)` (R117, R118): called once per completed instruction. -/
def displayStep (m : OvershootMode) (ticks : Nat) (d : Display) : Display :=
  match m with
  | .carry => displayStepCarry ticks d
  | .discard => displayStepDiscard ticks d

end Sys2Proof.Machine
end

