-- ==== Sys2Proof/Machine/Ops.lean ====
section
/-! DEFINITION. The named operations over memory and registers: the address decoder and the four bus operations
(20_memory.md), the fatal stop (60_exceptions.md R137), the completion of an instruction (30_encoding.md R79, R80), and the
parts of the instruction cycle before the handler (R78). There is no return from the fatal stop (60_exceptions.md R140). -/

namespace Sys2Proof.Machine

/-- What an address selects (20_memory.md R46): a store and the offset in it, or nothing. -/
inductive Region where
  | bootRom (off : Nat)
  | cart (off : Nat)
  | vram (off : Nat)
  | eram (off : Nat)
  | wram (off : Nat)
  | oam (off : Nat)
  | zram (off : Nat)
  | unmapped
  | reserved
  deriving DecidableEq, Repr

/-- `decode(addr)` of R46: total, the eleven ranges in the table's order. `a % 0x2000` is `addr & 0x1FFF`, `a % 0x100` is
`addr & 0x00FF`. -/
def decodeAddr (inboot : Bool) (addr : Word) : Region :=
  let a := addr.toNat
  if a < 0x0100 then if inboot then .bootRom a else .cart a
  else if a < 0x8000 then .cart a
  else if a < 0xA000 then .vram (a % 0x2000)
  else if a < 0xC000 then .eram (a % 0x2000)
  else if a < 0xE000 then .wram (a % 0x2000)
  else if a < 0xFE00 then .wram (a % 0x2000)
  else if a < 0xFEA0 then .oam (a % 0x100)
  else if a < 0xFF00 then .unmapped
  else if a < 0xFF80 then .reserved
  else if a < 0xFFFF then .zram (a - 0xFF80)
  else .reserved

/-- `cart_byte(i)` of R48: 0x00 past the image. -/
def cartByte (b : Bus) (i : Nat) : Byte := if i < b.cartLen then Memory.read b.cart i else 0x00

/-- `region.read(off)` of R43, with the "read returns" column of R46. -/
def readRegion (s : State) : Region → Byte
  | .bootRom off => Memory.read s.bus.bootRom off
  | .cart off => cartByte s.bus off
  | .vram off => vramRead s.lcd off
  | .eram off => Memory.read s.bus.eram off
  | .wram off => Memory.read s.bus.wram off
  | .oam off => oamRead s.lcd off
  | .zram off => Memory.read s.bus.zram off
  | .unmapped => 0x00
  | .reserved => 0x00

/-- `region.write(off, v)` of R43, with the "write does" column of R46: writes to ROM, unmapped and reserved ranges are
dropped. -/
def writeRegion (s : State) (v : Byte) : Region → State
  | .bootRom _ => s
  | .cart _ => s
  | .vram off => { s with lcd := vramWrite s.lcd off v }
  | .eram off => { s with bus := { s.bus with eram := Memory.write s.bus.eram off v } }
  | .wram off => { s with bus := { s.bus with wram := Memory.write s.bus.wram off v } }
  | .oam off => { s with lcd := oamWrite s.lcd off v }
  | .zram off => { s with bus := { s.bus with zram := Memory.write s.bus.zram off v } }
  | .unmapped => s
  | .reserved => s

/-- `read8(addr)` (R43): it cannot fail and has no side effect (R62). -/
def read8 (s : State) (addr : Word) : Byte := readRegion s (decodeAddr s.bus.inboot addr)

/-- `write8(addr, v)` (R43): it cannot fail. -/
def write8 (s : State) (addr : Word) (v : Byte) : State := writeRegion s v (decodeAddr s.bus.inboot addr)

/-- `read16(addr)` (R44): little-endian, the second byte at `addr + 1` mod 2^16. -/
def read16 (s : State) (addr : Word) : Word := joinBytes (read8 s (addr + 1)) (read8 s addr)

/-- `write16(addr, v)` (R45): the low byte first, the high byte at `addr + 1` mod 2^16. An interface primitive: no
instruction issues it. -/
def write16 (s : State) (addr v : Word) : State := write8 (write8 s addr (lowByte v)) (addr + 1) (highByte v)

/-- Add `n` to pc, mod 2^16 (10_state.md R25). -/
def advancePc (s : State) (n : Word) : State := { s with cpu := { s.cpu with pc := s.cpu.pc + n } }

/-- TAKING THE EXCEPTION: the fatal stop, `raise Fatal(opcode, op_pc)` of 60_exceptions.md R137. It writes the record and
nothing else. It is raised in a handler, where pc is the opcode's address plus 1 (30_encoding.md R78), so that address is
`pc - 1` (log 7). No cost is added and the display gets no ticks (R138). The step answers this state as a NEXT state; every
later step faults (log 6). -/
def raiseFatal (opcode : Byte) (s : State) : Host.Outcome State Fault Refusal :=
  .next { s with cpu := { s.cpu with stopped := true, faultOpcode := opcode, faultPc := s.cpu.pc - 1 } }

/-- The cause code of a fault (60_exceptions.md R136, D35): 1, FATAL_UNIMPLEMENTED_OPCODE. -/
def causeCode : Fault → Nat
  | .stopped _ _ => 1

/-- The cost of NOP, CYC_NOP, fixed at one machine cycle (00_scope.md R12; 41_control.md R103). -/
def cycNop : Nat := 1

/-- `clk_m <- clk_m + m; clk_t <- clk_t + 4*m` (30_encoding.md R78, R79). -/
def addCost (m : Nat) (s : State) : State :=
  { s with cpu := { s.cpu with clkM := s.cpu.clkM + m, clkT := s.cpu.clkT + 4 * m } }

/-- The tick channel (00_scope.md R8): the display advances by the ticks of the completed instruction. -/
def advanceDisplay (ticks : Nat) (s : State) : State :=
  { s with lcd := displayStep s.cfg.overshootMode ticks s.lcd }

/-- `cost(m)`, the last statement of every handler that completes: the counters are advanced and then the display, after
every effect of the instruction (30_encoding.md R78 to R80; log 8). -/
def complete (m : Nat) (s : State) : Host.Outcome State Fault Refusal := .next (advanceDisplay (4 * m) (addCost m s))

/-- The bootstrap exit, tested at the start of every instruction cycle (20_memory.md R57). -/
def bootExit (s : State) : State :=
  if s.bus.inboot = true ∧ s.cpu.pc = 0x0100 then { s with bus := { s.bus with inboot := false } } else s

/-- The bytes of the instruction at pc: the opcode, and the operand bytes only where the opcode has them (30_encoding.md
R68; R70: addresses mod 2^16). -/
def fetchBytes (s : State) : List Byte :=
  let op := read8 s s.cpu.pc
  match dispatchEntry op with
  | .formatO _ => [op]
  | .formatI16 => [op, read8 s (s.cpu.pc + 1), read8 s (s.cpu.pc + 2)]

/-- The state in which every handler runs: pc one past the opcode (30_encoding.md R78). -/
def pastOpcode (s : State) : State := advancePc s 1

/-- What `step` answers on a stopped state (30_encoding.md R80): the record, no state change. -/
def stoppedAnswer (s : State) : Host.Outcome State Fault Refusal := .fault (.stopped s.cpu.faultOpcode s.cpu.faultPc)

/-- What `step` would answer if the fetched bytes were no instruction; it never does. -/
def undecodableAnswer (e : DecodeError) : Host.Outcome State Fault Refusal := .refused (.undecodable e)

/-- Place a byte at an address from outside the machine, into the store the address selects, the ROMs too; a cartridge
byte past the image makes the image as long as it needs. An address no store lies behind takes nothing (log 1). -/
def pokeByte (s : State) (addr : Word) (v : Byte) : State :=
  match decodeAddr s.bus.inboot addr with
  | .bootRom off => { s with bus := { s.bus with bootRom := Memory.write s.bus.bootRom off v } }
  | .cart off =>
    { s with bus := { s.bus with cart := Memory.write s.bus.cart off v, cartLen := max s.bus.cartLen (off + 1) } }
  | r => writeRegion s v r

/-- Place the three bytes of `w` at pc, where the next fetch reads (log 1). -/
def pokeFetchWord (s : State) (nbits w : Nat) : State :=
  let bits := w % 2 ^ nbits
  let pc := s.cpu.pc
  pokeByte (pokeByte (pokeByte s pc (BitVec.ofNat 8 bits)) (pc + 1) (BitVec.ofNat 8 (bits / 2 ^ 8)))
    (pc + 2) (BitVec.ofNat 8 (bits / 2 ^ 16))

end Sys2Proof.Machine
end

