-- ==== Sys2Proof/Machine/Operands.lean ====
section
/-! DEFINITION. Operand forms: the 8-bit registers (10_state.md R17), the flag register (R20), the register pairs (R18),
sp (R26) and the two stack accesses (42_stack.md). -/

namespace Sys2Proof.Machine

/-- The registers an ALU instruction can name (30_encoding.md R71). -/
inductive Reg8 where
  | b | c | d | e | h | l | a
  deriving DecidableEq, Repr

/-- `R[r]` (00_scope.md R15). -/
def readReg (s : State) : Reg8 → Byte
  | .b => s.cpu.b
  | .c => s.cpu.c
  | .d => s.cpu.d
  | .e => s.cpu.e
  | .h => s.cpu.h
  | .l => s.cpu.l
  | .a => s.cpu.a

/-- `R[r] <- v` for r other than F (R15). -/
def writeReg (s : State) (r : Reg8) (v : Byte) : State :=
  match r with
  | .b => { s with cpu := { s.cpu with b := v } }
  | .c => { s with cpu := { s.cpu with c := v } }
  | .d => { s with cpu := { s.cpu with d := v } }
  | .e => { s with cpu := { s.cpu with e := v } }
  | .h => { s with cpu := { s.cpu with h := v } }
  | .l => { s with cpu := { s.cpu with l := v } }
  | .a => { s with cpu := { s.cpu with a := v } }

/-- `F <- v`: every write to F stores `v & 0xF0` (10_state.md R20). -/
def writeF (s : State) (v : Byte) : State := { s with cpu := { s.cpu with f := v &&& 0xF0 } }

/-- The register pairs (10_state.md R18, 30_encoding.md R72). -/
inductive Pair where
  | bc | de | hl | af
  deriving DecidableEq, Repr

/-- `R[high(qq)]` (R18). -/
def pairHigh (s : State) : Pair → Byte
  | .bc => s.cpu.b
  | .de => s.cpu.d
  | .hl => s.cpu.h
  | .af => s.cpu.a

/-- `R[low(qq)]` (R18). -/
def pairLow (s : State) : Pair → Byte
  | .bc => s.cpu.c
  | .de => s.cpu.e
  | .hl => s.cpu.l
  | .af => s.cpu.f

/-- `R[low(qq)] <- lo; R[high(qq)] <- hi` (42_stack.md R110): F is masked (R114). -/
def writePair (s : State) (p : Pair) (hi lo : Byte) : State :=
  match p with
  | .bc => writeReg (writeReg s .c lo) .b hi
  | .de => writeReg (writeReg s .e lo) .d hi
  | .hl => writeReg (writeReg s .l lo) .h hi
  | .af => writeReg (writeF s lo) .a hi

/-- `sp <- v` (10_state.md R26). -/
def setSp (s : State) (v : Word) : State := { s with cpu := { s.cpu with sp := v } }

/-- One byte write of PUSH: sp is decremented mod 2^16, then the byte stored at it (42_stack.md R105). -/
def pushByte (s : State) (v : Byte) : State := write8 (setSp s (s.cpu.sp - 1)) (s.cpu.sp - 1) v

/-- The byte that POP reads at sp (42_stack.md R110). -/
def topByte (s : State) : Byte := read8 s s.cpu.sp

/-- sp is incremented mod 2^16 after a byte of POP is read (42_stack.md R110). -/
def dropByte (s : State) : State := setSp s (s.cpu.sp + 1)

end Sys2Proof.Machine
end

