-- ==== Sys2Proof/Machine/Flags.lean ====
section
/-! DEFINITION. The 8-bit ALU and the flag contract (40_alu.md R81 to R86). The unmasked result is an integer; the flags
are computed on it, and only then is it masked to 8 bits (00_scope.md R14). -/

namespace Sys2Proof.Machine

/-- The ALU's operation (R81). -/
inductive AluOp where
  | add
  | sub
  deriving DecidableEq, Repr

/-- The unmasked result u (R81): 0..510 for ADD, -255..255 for SUB. -/
def unmasked : AluOp → Byte → Byte → Int
  | .add, x, y => (x.toNat : Int) + y.toNat
  | .sub, x, y => (x.toNat : Int) - y.toNat

/-- `mask8(u)`: u mod 256 (00_scope.md R13). -/
def mask8 (u : Int) : Byte := BitVec.ofInt 8 u

/-- C (R82). -/
def carryFlag : AluOp → Int → Bool
  | .add, u => decide (u > 255)
  | .sub, u => decide (u < 0)

/-- N (R83). -/
def subtractFlag : AluOp → Bool
  | .add => false
  | .sub => true

/-- H (R84): bit 4 of x ^ y ^ u, u in two's complement. -/
def halfFlag (x y : Byte) (u : Int) : Bool := (x ^^^ y ^^^ BitVec.ofInt 8 u).getLsbD 4

/-- Z (R85): one test on the masked result, in the polarity the parameter gives. -/
def zeroFlag (p : ZeroPolarity) (u : Int) : Bool :=
  match p with
  | .setWhenZero => decide (mask8 u = 0)
  | .setWhenNonzero => decide (mask8 u ≠ 0)

/-- The flag byte `(Z << 7) | (N << 6) | (H << 5) | (C << 4)` (R86). -/
def packFlags (z n h c : Bool) : Byte :=
  ((BitVec.ofBool z).setWidth 8 <<< 7) ||| ((BitVec.ofBool n).setWidth 8 <<< 6) |||
    ((BitVec.ofBool h).setWidth 8 <<< 5) ||| ((BitVec.ofBool c).setWidth 8 <<< 4)

/-- The result output of `ALU(op, x, y)` (R81). -/
def aluResult (op : AluOp) (x y : Byte) : Byte := mask8 (unmasked op x y)

/-- The four flag outputs of `ALU(op, x, y)` (R81), as the byte written to F (R86). -/
def aluFlags (p : ZeroPolarity) (op : AluOp) (x y : Byte) : Byte :=
  let u := unmasked op x y
  packFlags (zeroFlag p u) (subtractFlag op) (halfFlag x y u) (carryFlag op u)

end Sys2Proof.Machine
end

