-- ==== Sys2Proof/Machine/Alu.lean ====
section
/-! DEFINITION. ADD A,r (40_alu.md R87 to R94) and CP r (R95 to R102). -/

namespace Sys2Proof.Machine

/-- ADD A,r (R87): both operands are read before anything is written, A takes the masked sum, all four flags are
written. -/
def addToA (r : Reg8) (s : State) : Host.Outcome State Fault Refusal :=
  let x := s.cpu.a
  let y := readReg s r
  complete s.cfg.cycAdd (writeF (writeReg s .a (aluResult .add x y)) (aluFlags s.cfg.zeroPolarity .add x y))

/-- CP r (R95): the flags of A - r; the difference is discarded. -/
def compareWithA (r : Reg8) (s : State) : Host.Outcome State Fault Refusal :=
  complete s.cfg.cycCp (writeF s (aluFlags s.cfg.zeroPolarity .sub s.cpu.a (readReg s r)))

/-- `ADD A,B`, opcode 0x80 (R88). -/
def execAddAB (s : State) : Host.Outcome State Fault Refusal := addToA .b s

/-- `ADD A,C`, opcode 0x81 (R89). -/
def execAddAC (s : State) : Host.Outcome State Fault Refusal := addToA .c s

/-- `ADD A,D`, opcode 0x82 (R90). -/
def execAddAD (s : State) : Host.Outcome State Fault Refusal := addToA .d s

/-- `ADD A,E`, opcode 0x83 (R91). -/
def execAddAE (s : State) : Host.Outcome State Fault Refusal := addToA .e s

/-- `ADD A,H`, opcode 0x84 (R92). -/
def execAddAH (s : State) : Host.Outcome State Fault Refusal := addToA .h s

/-- `ADD A,L`, opcode 0x85 (R93). -/
def execAddAL (s : State) : Host.Outcome State Fault Refusal := addToA .l s

/-- `ADD A,A`, opcode 0x87 (R94). -/
def execAddAA (s : State) : Host.Outcome State Fault Refusal := addToA .a s

/-- `CP B`, opcode 0xB8 (R96). -/
def execCpB (s : State) : Host.Outcome State Fault Refusal := compareWithA .b s

/-- `CP C`, opcode 0xB9 (R97). -/
def execCpC (s : State) : Host.Outcome State Fault Refusal := compareWithA .c s

/-- `CP D`, opcode 0xBA (R98). -/
def execCpD (s : State) : Host.Outcome State Fault Refusal := compareWithA .d s

/-- `CP E`, opcode 0xBB (R99). -/
def execCpE (s : State) : Host.Outcome State Fault Refusal := compareWithA .e s

/-- `CP H`, opcode 0xBC (R100). -/
def execCpH (s : State) : Host.Outcome State Fault Refusal := compareWithA .h s

/-- `CP L`, opcode 0xBD (R101). -/
def execCpL (s : State) : Host.Outcome State Fault Refusal := compareWithA .l s

/-- `CP A`, opcode 0xBF (R102). -/
def execCpA (s : State) : Host.Outcome State Fault Refusal := compareWithA .a s

end Sys2Proof.Machine
end

