-- ==== Sys2Proof/Machine/Control.lean ====
section
/-! DEFINITION. No-operation (41_control.md R103). The other handler of that file, FATAL, is in Machine/Fatal.lean. -/

namespace Sys2Proof.Machine

/-- `NOP` (R103): only the cost, CYC_NOP. -/
def execNop (s : State) : Host.Outcome State Fault Refusal := complete cycNop s

end Sys2Proof.Machine
end

