-- ==== Sys2Proof/Machine/Fatal.lean ====
section
/-! DEFINITION. The FATAL handler (41_control.md R104) for each of the 232 opcodes of 30_encoding.md R75: each takes the
fatal stop of 60_exceptions.md R137 with its own byte. No operand is fetched, nothing is computed, no cost is declared. -/

namespace Sys2Proof.Machine

/-- Opcode 0x01 (R104). -/
def execFatal01 (s : State) : Host.Outcome State Fault Refusal := raiseFatal 0x01 s
/-- Opcode 0x02 (R104). -/
def execFatal02 (s : State) : Host.Outcome State Fault Refusal := raiseFatal 0x02 s
/-- Opcode 0x03 (R104). -/
def execFatal03 (s : State) : Host.Outcome State Fault Refusal := raiseFatal 0x03 s
/-- Opcode 0x04 (R104). -/
def execFatal04 (s : State) : Host.Outcome State Fault Refusal := raiseFatal 0x04 s
/-- Opcode 0x05 (R104). -/
def execFatal05 (s : State) : Host.Outcome State Fault Refusal := raiseFatal 0x05 s
/-- Opcode 0x06 (R104). -/
def execFatal06 (s : State) : Host.Outcome State Fault Refusal := raiseFatal 0x06 s
/-- Opcode 0x07 (R104). -/
def execFatal07 (s : State) : Host.Outcome State Fault Refusal := raiseFatal 0x07 s
/-- Opcode 0x08 (R104). -/
def execFatal08 (s : State) : Host.Outcome State Fault Refusal := raiseFatal 0x08 s
/-- Opcode 0x09 (R104). -/
def execFatal09 (s : State) : Host.Outcome State Fault Refusal := raiseFatal 0x09 s
/-- Opcode 0x0A (R104). -/
def execFatal0A (s : State) : Host.Outcome State Fault Refusal := raiseFatal 0x0A s
/-- Opcode 0x0B (R104). -/
def execFatal0B (s : State) : Host.Outcome State Fault Refusal := raiseFatal 0x0B s
/-- Opcode 0x0C (R104). -/
def execFatal0C (s : State) : Host.Outcome State Fault Refusal := raiseFatal 0x0C s
/-- Opcode 0x0D (R104). -/
def execFatal0D (s : State) : Host.Outcome State Fault Refusal := raiseFatal 0x0D s
/-- Opcode 0x0E (R104). -/
def execFatal0E (s : State) : Host.Outcome State Fault Refusal := raiseFatal 0x0E s
/-- Opcode 0x0F (R104). -/
def execFatal0F (s : State) : Host.Outcome State Fault Refusal := raiseFatal 0x0F s
/-- Opcode 0x10 (R104). -/
def execFatal10 (s : State) : Host.Outcome State Fault Refusal := raiseFatal 0x10 s
/-- Opcode 0x11 (R104). -/
def execFatal11 (s : State) : Host.Outcome State Fault Refusal := raiseFatal 0x11 s
/-- Opcode 0x12 (R104). -/
def execFatal12 (s : State) : Host.Outcome State Fault Refusal := raiseFatal 0x12 s
/-- Opcode 0x13 (R104). -/
def execFatal13 (s : State) : Host.Outcome State Fault Refusal := raiseFatal 0x13 s
/-- Opcode 0x14 (R104). -/
def execFatal14 (s : State) : Host.Outcome State Fault Refusal := raiseFatal 0x14 s
/-- Opcode 0x15 (R104). -/
def execFatal15 (s : State) : Host.Outcome State Fault Refusal := raiseFatal 0x15 s
/-- Opcode 0x16 (R104). -/
def execFatal16 (s : State) : Host.Outcome State Fault Refusal := raiseFatal 0x16 s
/-- Opcode 0x17 (R104). -/
def execFatal17 (s : State) : Host.Outcome State Fault Refusal := raiseFatal 0x17 s
/-- Opcode 0x18 (R104). -/
def execFatal18 (s : State) : Host.Outcome State Fault Refusal := raiseFatal 0x18 s
/-- Opcode 0x19 (R104). -/
def execFatal19 (s : State) : Host.Outcome State Fault Refusal := raiseFatal 0x19 s
/-- Opcode 0x1A (R104). -/
def execFatal1A (s : State) : Host.Outcome State Fault Refusal := raiseFatal 0x1A s
/-- Opcode 0x1B (R104). -/
def execFatal1B (s : State) : Host.Outcome State Fault Refusal := raiseFatal 0x1B s
/-- Opcode 0x1C (R104). -/
def execFatal1C (s : State) : Host.Outcome State Fault Refusal := raiseFatal 0x1C s
/-- Opcode 0x1D (R104). -/
def execFatal1D (s : State) : Host.Outcome State Fault Refusal := raiseFatal 0x1D s
/-- Opcode 0x1E (R104). -/
def execFatal1E (s : State) : Host.Outcome State Fault Refusal := raiseFatal 0x1E s
/-- Opcode 0x1F (R104). -/
def execFatal1F (s : State) : Host.Outcome State Fault Refusal := raiseFatal 0x1F s
/-- Opcode 0x20 (R104). -/
def execFatal20 (s : State) : Host.Outcome State Fault Refusal := raiseFatal 0x20 s
/-- Opcode 0x21 (R104). -/
def execFatal21 (s : State) : Host.Outcome State Fault Refusal := raiseFatal 0x21 s
/-- Opcode 0x22 (R104). -/
def execFatal22 (s : State) : Host.Outcome State Fault Refusal := raiseFatal 0x22 s
/-- Opcode 0x23 (R104). -/
def execFatal23 (s : State) : Host.Outcome State Fault Refusal := raiseFatal 0x23 s
/-- Opcode 0x24 (R104). -/
def execFatal24 (s : State) : Host.Outcome State Fault Refusal := raiseFatal 0x24 s
/-- Opcode 0x25 (R104). -/
def execFatal25 (s : State) : Host.Outcome State Fault Refusal := raiseFatal 0x25 s
/-- Opcode 0x26 (R104). -/
def execFatal26 (s : State) : Host.Outcome State Fault Refusal := raiseFatal 0x26 s
/-- Opcode 0x27 (R104). -/
def execFatal27 (s : State) : Host.Outcome State Fault Refusal := raiseFatal 0x27 s
/-- Opcode 0x28 (R104). -/
def execFatal28 (s : State) : Host.Outcome State Fault Refusal := raiseFatal 0x28 s
/-- Opcode 0x29 (R104). -/
def execFatal29 (s : State) : Host.Outcome State Fault Refusal := raiseFatal 0x29 s
/-- Opcode 0x2A (R104). -/
def execFatal2A (s : State) : Host.Outcome State Fault Refusal := raiseFatal 0x2A s
/-- Opcode 0x2B (R104). -/
def execFatal2B (s : State) : Host.Outcome State Fault Refusal := raiseFatal 0x2B s
/-- Opcode 0x2C (R104). -/
def execFatal2C (s : State) : Host.Outcome State Fault Refusal := raiseFatal 0x2C s
/-- Opcode 0x2D (R104). -/
def execFatal2D (s : State) : Host.Outcome State Fault Refusal := raiseFatal 0x2D s
/-- Opcode 0x2E (R104). -/
def execFatal2E (s : State) : Host.Outcome State Fault Refusal := raiseFatal 0x2E s
/-- Opcode 0x2F (R104). -/
def execFatal2F (s : State) : Host.Outcome State Fault Refusal := raiseFatal 0x2F s
/-- Opcode 0x30 (R104). -/
def execFatal30 (s : State) : Host.Outcome State Fault Refusal := raiseFatal 0x30 s
/-- Opcode 0x31 (R104). -/
def execFatal31 (s : State) : Host.Outcome State Fault Refusal := raiseFatal 0x31 s
/-- Opcode 0x32 (R104). -/
def execFatal32 (s : State) : Host.Outcome State Fault Refusal := raiseFatal 0x32 s
/-- Opcode 0x33 (R104). -/
def execFatal33 (s : State) : Host.Outcome State Fault Refusal := raiseFatal 0x33 s
/-- Opcode 0x34 (R104). -/
def execFatal34 (s : State) : Host.Outcome State Fault Refusal := raiseFatal 0x34 s
/-- Opcode 0x35 (R104). -/
def execFatal35 (s : State) : Host.Outcome State Fault Refusal := raiseFatal 0x35 s
/-- Opcode 0x36 (R104). -/
def execFatal36 (s : State) : Host.Outcome State Fault Refusal := raiseFatal 0x36 s
/-- Opcode 0x37 (R104). -/
def execFatal37 (s : State) : Host.Outcome State Fault Refusal := raiseFatal 0x37 s
/-- Opcode 0x38 (R104). -/
def execFatal38 (s : State) : Host.Outcome State Fault Refusal := raiseFatal 0x38 s
/-- Opcode 0x39 (R104). -/
def execFatal39 (s : State) : Host.Outcome State Fault Refusal := raiseFatal 0x39 s
/-- Opcode 0x3A (R104). -/
def execFatal3A (s : State) : Host.Outcome State Fault Refusal := raiseFatal 0x3A s
/-- Opcode 0x3B (R104). -/
def execFatal3B (s : State) : Host.Outcome State Fault Refusal := raiseFatal 0x3B s
/-- Opcode 0x3C (R104). -/
def execFatal3C (s : State) : Host.Outcome State Fault Refusal := raiseFatal 0x3C s
/-- Opcode 0x3D (R104). -/
def execFatal3D (s : State) : Host.Outcome State Fault Refusal := raiseFatal 0x3D s
/-- Opcode 0x3E (R104). -/
def execFatal3E (s : State) : Host.Outcome State Fault Refusal := raiseFatal 0x3E s
/-- Opcode 0x3F (R104). -/
def execFatal3F (s : State) : Host.Outcome State Fault Refusal := raiseFatal 0x3F s
/-- Opcode 0x40 (R104). -/
def execFatal40 (s : State) : Host.Outcome State Fault Refusal := raiseFatal 0x40 s
/-- Opcode 0x41 (R104). -/
def execFatal41 (s : State) : Host.Outcome State Fault Refusal := raiseFatal 0x41 s
/-- Opcode 0x42 (R104). -/
def execFatal42 (s : State) : Host.Outcome State Fault Refusal := raiseFatal 0x42 s
/-- Opcode 0x43 (R104). -/
def execFatal43 (s : State) : Host.Outcome State Fault Refusal := raiseFatal 0x43 s
/-- Opcode 0x44 (R104). -/
def execFatal44 (s : State) : Host.Outcome State Fault Refusal := raiseFatal 0x44 s
/-- Opcode 0x45 (R104). -/
def execFatal45 (s : State) : Host.Outcome State Fault Refusal := raiseFatal 0x45 s
/-- Opcode 0x46 (R104). -/
def execFatal46 (s : State) : Host.Outcome State Fault Refusal := raiseFatal 0x46 s
/-- Opcode 0x47 (R104). -/
def execFatal47 (s : State) : Host.Outcome State Fault Refusal := raiseFatal 0x47 s
/-- Opcode 0x48 (R104). -/
def execFatal48 (s : State) : Host.Outcome State Fault Refusal := raiseFatal 0x48 s
/-- Opcode 0x49 (R104). -/
def execFatal49 (s : State) : Host.Outcome State Fault Refusal := raiseFatal 0x49 s
/-- Opcode 0x4A (R104). -/
def execFatal4A (s : State) : Host.Outcome State Fault Refusal := raiseFatal 0x4A s
/-- Opcode 0x4B (R104). -/
def execFatal4B (s : State) : Host.Outcome State Fault Refusal := raiseFatal 0x4B s
/-- Opcode 0x4C (R104). -/
def execFatal4C (s : State) : Host.Outcome State Fault Refusal := raiseFatal 0x4C s
/-- Opcode 0x4D (R104). -/
def execFatal4D (s : State) : Host.Outcome State Fault Refusal := raiseFatal 0x4D s
/-- Opcode 0x4E (R104). -/
def execFatal4E (s : State) : Host.Outcome State Fault Refusal := raiseFatal 0x4E s
/-- Opcode 0x4F (R104). -/
def execFatal4F (s : State) : Host.Outcome State Fault Refusal := raiseFatal 0x4F s
/-- Opcode 0x50 (R104). -/
def execFatal50 (s : State) : Host.Outcome State Fault Refusal := raiseFatal 0x50 s
/-- Opcode 0x51 (R104). -/
def execFatal51 (s : State) : Host.Outcome State Fault Refusal := raiseFatal 0x51 s
/-- Opcode 0x52 (R104). -/
def execFatal52 (s : State) : Host.Outcome State Fault Refusal := raiseFatal 0x52 s
/-- Opcode 0x53 (R104). -/
def execFatal53 (s : State) : Host.Outcome State Fault Refusal := raiseFatal 0x53 s
/-- Opcode 0x54 (R104). -/
def execFatal54 (s : State) : Host.Outcome State Fault Refusal := raiseFatal 0x54 s
/-- Opcode 0x55 (R104). -/
def execFatal55 (s : State) : Host.Outcome State Fault Refusal := raiseFatal 0x55 s
/-- Opcode 0x56 (R104). -/
def execFatal56 (s : State) : Host.Outcome State Fault Refusal := raiseFatal 0x56 s
/-- Opcode 0x57 (R104). -/
def execFatal57 (s : State) : Host.Outcome State Fault Refusal := raiseFatal 0x57 s
/-- Opcode 0x58 (R104). -/
def execFatal58 (s : State) : Host.Outcome State Fault Refusal := raiseFatal 0x58 s
/-- Opcode 0x59 (R104). -/
def execFatal59 (s : State) : Host.Outcome State Fault Refusal := raiseFatal 0x59 s
/-- Opcode 0x5A (R104). -/
def execFatal5A (s : State) : Host.Outcome State Fault Refusal := raiseFatal 0x5A s
/-- Opcode 0x5B (R104). -/
def execFatal5B (s : State) : Host.Outcome State Fault Refusal := raiseFatal 0x5B s
/-- Opcode 0x5C (R104). -/
def execFatal5C (s : State) : Host.Outcome State Fault Refusal := raiseFatal 0x5C s
/-- Opcode 0x5D (R104). -/
def execFatal5D (s : State) : Host.Outcome State Fault Refusal := raiseFatal 0x5D s
/-- Opcode 0x5E (R104). -/
def execFatal5E (s : State) : Host.Outcome State Fault Refusal := raiseFatal 0x5E s
/-- Opcode 0x5F (R104). -/
def execFatal5F (s : State) : Host.Outcome State Fault Refusal := raiseFatal 0x5F s
/-- Opcode 0x60 (R104). -/
def execFatal60 (s : State) : Host.Outcome State Fault Refusal := raiseFatal 0x60 s
/-- Opcode 0x61 (R104). -/
def execFatal61 (s : State) : Host.Outcome State Fault Refusal := raiseFatal 0x61 s
/-- Opcode 0x62 (R104). -/
def execFatal62 (s : State) : Host.Outcome State Fault Refusal := raiseFatal 0x62 s
/-- Opcode 0x63 (R104). -/
def execFatal63 (s : State) : Host.Outcome State Fault Refusal := raiseFatal 0x63 s
/-- Opcode 0x64 (R104). -/
def execFatal64 (s : State) : Host.Outcome State Fault Refusal := raiseFatal 0x64 s
/-- Opcode 0x65 (R104). -/
def execFatal65 (s : State) : Host.Outcome State Fault Refusal := raiseFatal 0x65 s
/-- Opcode 0x66 (R104). -/
def execFatal66 (s : State) : Host.Outcome State Fault Refusal := raiseFatal 0x66 s
/-- Opcode 0x67 (R104). -/
def execFatal67 (s : State) : Host.Outcome State Fault Refusal := raiseFatal 0x67 s
/-- Opcode 0x68 (R104). -/
def execFatal68 (s : State) : Host.Outcome State Fault Refusal := raiseFatal 0x68 s
/-- Opcode 0x69 (R104). -/
def execFatal69 (s : State) : Host.Outcome State Fault Refusal := raiseFatal 0x69 s
/-- Opcode 0x6A (R104). -/
def execFatal6A (s : State) : Host.Outcome State Fault Refusal := raiseFatal 0x6A s
/-- Opcode 0x6B (R104). -/
def execFatal6B (s : State) : Host.Outcome State Fault Refusal := raiseFatal 0x6B s
/-- Opcode 0x6C (R104). -/
def execFatal6C (s : State) : Host.Outcome State Fault Refusal := raiseFatal 0x6C s
/-- Opcode 0x6D (R104). -/
def execFatal6D (s : State) : Host.Outcome State Fault Refusal := raiseFatal 0x6D s
/-- Opcode 0x6E (R104). -/
def execFatal6E (s : State) : Host.Outcome State Fault Refusal := raiseFatal 0x6E s
/-- Opcode 0x6F (R104). -/
def execFatal6F (s : State) : Host.Outcome State Fault Refusal := raiseFatal 0x6F s
/-- Opcode 0x70 (R104). -/
def execFatal70 (s : State) : Host.Outcome State Fault Refusal := raiseFatal 0x70 s
/-- Opcode 0x71 (R104). -/
def execFatal71 (s : State) : Host.Outcome State Fault Refusal := raiseFatal 0x71 s
/-- Opcode 0x72 (R104). -/
def execFatal72 (s : State) : Host.Outcome State Fault Refusal := raiseFatal 0x72 s
/-- Opcode 0x73 (R104). -/
def execFatal73 (s : State) : Host.Outcome State Fault Refusal := raiseFatal 0x73 s
/-- Opcode 0x74 (R104). -/
def execFatal74 (s : State) : Host.Outcome State Fault Refusal := raiseFatal 0x74 s
/-- Opcode 0x75 (R104). -/
def execFatal75 (s : State) : Host.Outcome State Fault Refusal := raiseFatal 0x75 s
/-- Opcode 0x76 (R104). -/
def execFatal76 (s : State) : Host.Outcome State Fault Refusal := raiseFatal 0x76 s
/-- Opcode 0x77 (R104). -/
def execFatal77 (s : State) : Host.Outcome State Fault Refusal := raiseFatal 0x77 s
/-- Opcode 0x78 (R104). -/
def execFatal78 (s : State) : Host.Outcome State Fault Refusal := raiseFatal 0x78 s
/-- Opcode 0x79 (R104). -/
def execFatal79 (s : State) : Host.Outcome State Fault Refusal := raiseFatal 0x79 s
/-- Opcode 0x7A (R104). -/
def execFatal7A (s : State) : Host.Outcome State Fault Refusal := raiseFatal 0x7A s
/-- Opcode 0x7B (R104). -/
def execFatal7B (s : State) : Host.Outcome State Fault Refusal := raiseFatal 0x7B s
/-- Opcode 0x7C (R104). -/
def execFatal7C (s : State) : Host.Outcome State Fault Refusal := raiseFatal 0x7C s
/-- Opcode 0x7D (R104). -/
def execFatal7D (s : State) : Host.Outcome State Fault Refusal := raiseFatal 0x7D s
/-- Opcode 0x7E (R104). -/
def execFatal7E (s : State) : Host.Outcome State Fault Refusal := raiseFatal 0x7E s
/-- Opcode 0x7F (R104). -/
def execFatal7F (s : State) : Host.Outcome State Fault Refusal := raiseFatal 0x7F s
/-- Opcode 0x86 (R104). -/
def execFatal86 (s : State) : Host.Outcome State Fault Refusal := raiseFatal 0x86 s
/-- Opcode 0x88 (R104). -/
def execFatal88 (s : State) : Host.Outcome State Fault Refusal := raiseFatal 0x88 s
/-- Opcode 0x89 (R104). -/
def execFatal89 (s : State) : Host.Outcome State Fault Refusal := raiseFatal 0x89 s
/-- Opcode 0x8A (R104). -/
def execFatal8A (s : State) : Host.Outcome State Fault Refusal := raiseFatal 0x8A s
/-- Opcode 0x8B (R104). -/
def execFatal8B (s : State) : Host.Outcome State Fault Refusal := raiseFatal 0x8B s
/-- Opcode 0x8C (R104). -/
def execFatal8C (s : State) : Host.Outcome State Fault Refusal := raiseFatal 0x8C s
/-- Opcode 0x8D (R104). -/
def execFatal8D (s : State) : Host.Outcome State Fault Refusal := raiseFatal 0x8D s
/-- Opcode 0x8E (R104). -/
def execFatal8E (s : State) : Host.Outcome State Fault Refusal := raiseFatal 0x8E s
/-- Opcode 0x8F (R104). -/
def execFatal8F (s : State) : Host.Outcome State Fault Refusal := raiseFatal 0x8F s
/-- Opcode 0x90 (R104). -/
def execFatal90 (s : State) : Host.Outcome State Fault Refusal := raiseFatal 0x90 s
/-- Opcode 0x91 (R104). -/
def execFatal91 (s : State) : Host.Outcome State Fault Refusal := raiseFatal 0x91 s
/-- Opcode 0x92 (R104). -/
def execFatal92 (s : State) : Host.Outcome State Fault Refusal := raiseFatal 0x92 s
/-- Opcode 0x93 (R104). -/
def execFatal93 (s : State) : Host.Outcome State Fault Refusal := raiseFatal 0x93 s
/-- Opcode 0x94 (R104). -/
def execFatal94 (s : State) : Host.Outcome State Fault Refusal := raiseFatal 0x94 s
/-- Opcode 0x95 (R104). -/
def execFatal95 (s : State) : Host.Outcome State Fault Refusal := raiseFatal 0x95 s
/-- Opcode 0x96 (R104). -/
def execFatal96 (s : State) : Host.Outcome State Fault Refusal := raiseFatal 0x96 s
/-- Opcode 0x97 (R104). -/
def execFatal97 (s : State) : Host.Outcome State Fault Refusal := raiseFatal 0x97 s
/-- Opcode 0x98 (R104). -/
def execFatal98 (s : State) : Host.Outcome State Fault Refusal := raiseFatal 0x98 s
/-- Opcode 0x99 (R104). -/
def execFatal99 (s : State) : Host.Outcome State Fault Refusal := raiseFatal 0x99 s
/-- Opcode 0x9A (R104). -/
def execFatal9A (s : State) : Host.Outcome State Fault Refusal := raiseFatal 0x9A s
/-- Opcode 0x9B (R104). -/
def execFatal9B (s : State) : Host.Outcome State Fault Refusal := raiseFatal 0x9B s
/-- Opcode 0x9C (R104). -/
def execFatal9C (s : State) : Host.Outcome State Fault Refusal := raiseFatal 0x9C s
/-- Opcode 0x9D (R104). -/
def execFatal9D (s : State) : Host.Outcome State Fault Refusal := raiseFatal 0x9D s
/-- Opcode 0x9E (R104). -/
def execFatal9E (s : State) : Host.Outcome State Fault Refusal := raiseFatal 0x9E s
/-- Opcode 0x9F (R104). -/
def execFatal9F (s : State) : Host.Outcome State Fault Refusal := raiseFatal 0x9F s
/-- Opcode 0xA0 (R104). -/
def execFatalA0 (s : State) : Host.Outcome State Fault Refusal := raiseFatal 0xA0 s
/-- Opcode 0xA1 (R104). -/
def execFatalA1 (s : State) : Host.Outcome State Fault Refusal := raiseFatal 0xA1 s
/-- Opcode 0xA2 (R104). -/
def execFatalA2 (s : State) : Host.Outcome State Fault Refusal := raiseFatal 0xA2 s
/-- Opcode 0xA3 (R104). -/
def execFatalA3 (s : State) : Host.Outcome State Fault Refusal := raiseFatal 0xA3 s
/-- Opcode 0xA4 (R104). -/
def execFatalA4 (s : State) : Host.Outcome State Fault Refusal := raiseFatal 0xA4 s
/-- Opcode 0xA5 (R104). -/
def execFatalA5 (s : State) : Host.Outcome State Fault Refusal := raiseFatal 0xA5 s
/-- Opcode 0xA6 (R104). -/
def execFatalA6 (s : State) : Host.Outcome State Fault Refusal := raiseFatal 0xA6 s
/-- Opcode 0xA7 (R104). -/
def execFatalA7 (s : State) : Host.Outcome State Fault Refusal := raiseFatal 0xA7 s
/-- Opcode 0xA8 (R104). -/
def execFatalA8 (s : State) : Host.Outcome State Fault Refusal := raiseFatal 0xA8 s
/-- Opcode 0xA9 (R104). -/
def execFatalA9 (s : State) : Host.Outcome State Fault Refusal := raiseFatal 0xA9 s
/-- Opcode 0xAA (R104). -/
def execFatalAA (s : State) : Host.Outcome State Fault Refusal := raiseFatal 0xAA s
/-- Opcode 0xAB (R104). -/
def execFatalAB (s : State) : Host.Outcome State Fault Refusal := raiseFatal 0xAB s
/-- Opcode 0xAC (R104). -/
def execFatalAC (s : State) : Host.Outcome State Fault Refusal := raiseFatal 0xAC s
/-- Opcode 0xAD (R104). -/
def execFatalAD (s : State) : Host.Outcome State Fault Refusal := raiseFatal 0xAD s
/-- Opcode 0xAE (R104). -/
def execFatalAE (s : State) : Host.Outcome State Fault Refusal := raiseFatal 0xAE s
/-- Opcode 0xAF (R104). -/
def execFatalAF (s : State) : Host.Outcome State Fault Refusal := raiseFatal 0xAF s
/-- Opcode 0xB0 (R104). -/
def execFatalB0 (s : State) : Host.Outcome State Fault Refusal := raiseFatal 0xB0 s
/-- Opcode 0xB1 (R104). -/
def execFatalB1 (s : State) : Host.Outcome State Fault Refusal := raiseFatal 0xB1 s
/-- Opcode 0xB2 (R104). -/
def execFatalB2 (s : State) : Host.Outcome State Fault Refusal := raiseFatal 0xB2 s
/-- Opcode 0xB3 (R104). -/
def execFatalB3 (s : State) : Host.Outcome State Fault Refusal := raiseFatal 0xB3 s
/-- Opcode 0xB4 (R104). -/
def execFatalB4 (s : State) : Host.Outcome State Fault Refusal := raiseFatal 0xB4 s
/-- Opcode 0xB5 (R104). -/
def execFatalB5 (s : State) : Host.Outcome State Fault Refusal := raiseFatal 0xB5 s
/-- Opcode 0xB6 (R104). -/
def execFatalB6 (s : State) : Host.Outcome State Fault Refusal := raiseFatal 0xB6 s
/-- Opcode 0xB7 (R104). -/
def execFatalB7 (s : State) : Host.Outcome State Fault Refusal := raiseFatal 0xB7 s
/-- Opcode 0xBE (R104). -/
def execFatalBE (s : State) : Host.Outcome State Fault Refusal := raiseFatal 0xBE s
/-- Opcode 0xC0 (R104). -/
def execFatalC0 (s : State) : Host.Outcome State Fault Refusal := raiseFatal 0xC0 s
/-- Opcode 0xC2 (R104). -/
def execFatalC2 (s : State) : Host.Outcome State Fault Refusal := raiseFatal 0xC2 s
/-- Opcode 0xC3 (R104). -/
def execFatalC3 (s : State) : Host.Outcome State Fault Refusal := raiseFatal 0xC3 s
/-- Opcode 0xC4 (R104). -/
def execFatalC4 (s : State) : Host.Outcome State Fault Refusal := raiseFatal 0xC4 s
/-- Opcode 0xC6 (R104). -/
def execFatalC6 (s : State) : Host.Outcome State Fault Refusal := raiseFatal 0xC6 s
/-- Opcode 0xC7 (R104). -/
def execFatalC7 (s : State) : Host.Outcome State Fault Refusal := raiseFatal 0xC7 s
/-- Opcode 0xC8 (R104). -/
def execFatalC8 (s : State) : Host.Outcome State Fault Refusal := raiseFatal 0xC8 s
/-- Opcode 0xC9 (R104). -/
def execFatalC9 (s : State) : Host.Outcome State Fault Refusal := raiseFatal 0xC9 s
/-- Opcode 0xCA (R104). -/
def execFatalCA (s : State) : Host.Outcome State Fault Refusal := raiseFatal 0xCA s
/-- Opcode 0xCB (R104). -/
def execFatalCB (s : State) : Host.Outcome State Fault Refusal := raiseFatal 0xCB s
/-- Opcode 0xCC (R104). -/
def execFatalCC (s : State) : Host.Outcome State Fault Refusal := raiseFatal 0xCC s
/-- Opcode 0xCD (R104). -/
def execFatalCD (s : State) : Host.Outcome State Fault Refusal := raiseFatal 0xCD s
/-- Opcode 0xCE (R104). -/
def execFatalCE (s : State) : Host.Outcome State Fault Refusal := raiseFatal 0xCE s
/-- Opcode 0xCF (R104). -/
def execFatalCF (s : State) : Host.Outcome State Fault Refusal := raiseFatal 0xCF s
/-- Opcode 0xD0 (R104). -/
def execFatalD0 (s : State) : Host.Outcome State Fault Refusal := raiseFatal 0xD0 s
/-- Opcode 0xD2 (R104). -/
def execFatalD2 (s : State) : Host.Outcome State Fault Refusal := raiseFatal 0xD2 s
/-- Opcode 0xD3 (R104). -/
def execFatalD3 (s : State) : Host.Outcome State Fault Refusal := raiseFatal 0xD3 s
/-- Opcode 0xD4 (R104). -/
def execFatalD4 (s : State) : Host.Outcome State Fault Refusal := raiseFatal 0xD4 s
/-- Opcode 0xD6 (R104). -/
def execFatalD6 (s : State) : Host.Outcome State Fault Refusal := raiseFatal 0xD6 s
/-- Opcode 0xD7 (R104). -/
def execFatalD7 (s : State) : Host.Outcome State Fault Refusal := raiseFatal 0xD7 s
/-- Opcode 0xD8 (R104). -/
def execFatalD8 (s : State) : Host.Outcome State Fault Refusal := raiseFatal 0xD8 s
/-- Opcode 0xD9 (R104). -/
def execFatalD9 (s : State) : Host.Outcome State Fault Refusal := raiseFatal 0xD9 s
/-- Opcode 0xDA (R104). -/
def execFatalDA (s : State) : Host.Outcome State Fault Refusal := raiseFatal 0xDA s
/-- Opcode 0xDB (R104). -/
def execFatalDB (s : State) : Host.Outcome State Fault Refusal := raiseFatal 0xDB s
/-- Opcode 0xDC (R104). -/
def execFatalDC (s : State) : Host.Outcome State Fault Refusal := raiseFatal 0xDC s
/-- Opcode 0xDD (R104). -/
def execFatalDD (s : State) : Host.Outcome State Fault Refusal := raiseFatal 0xDD s
/-- Opcode 0xDE (R104). -/
def execFatalDE (s : State) : Host.Outcome State Fault Refusal := raiseFatal 0xDE s
/-- Opcode 0xDF (R104). -/
def execFatalDF (s : State) : Host.Outcome State Fault Refusal := raiseFatal 0xDF s
/-- Opcode 0xE0 (R104). -/
def execFatalE0 (s : State) : Host.Outcome State Fault Refusal := raiseFatal 0xE0 s
/-- Opcode 0xE2 (R104). -/
def execFatalE2 (s : State) : Host.Outcome State Fault Refusal := raiseFatal 0xE2 s
/-- Opcode 0xE3 (R104). -/
def execFatalE3 (s : State) : Host.Outcome State Fault Refusal := raiseFatal 0xE3 s
/-- Opcode 0xE4 (R104). -/
def execFatalE4 (s : State) : Host.Outcome State Fault Refusal := raiseFatal 0xE4 s
/-- Opcode 0xE6 (R104). -/
def execFatalE6 (s : State) : Host.Outcome State Fault Refusal := raiseFatal 0xE6 s
/-- Opcode 0xE7 (R104). -/
def execFatalE7 (s : State) : Host.Outcome State Fault Refusal := raiseFatal 0xE7 s
/-- Opcode 0xE8 (R104). -/
def execFatalE8 (s : State) : Host.Outcome State Fault Refusal := raiseFatal 0xE8 s
/-- Opcode 0xE9 (R104). -/
def execFatalE9 (s : State) : Host.Outcome State Fault Refusal := raiseFatal 0xE9 s
/-- Opcode 0xEA (R104). -/
def execFatalEA (s : State) : Host.Outcome State Fault Refusal := raiseFatal 0xEA s
/-- Opcode 0xEB (R104). -/
def execFatalEB (s : State) : Host.Outcome State Fault Refusal := raiseFatal 0xEB s
/-- Opcode 0xEC (R104). -/
def execFatalEC (s : State) : Host.Outcome State Fault Refusal := raiseFatal 0xEC s
/-- Opcode 0xED (R104). -/
def execFatalED (s : State) : Host.Outcome State Fault Refusal := raiseFatal 0xED s
/-- Opcode 0xEE (R104). -/
def execFatalEE (s : State) : Host.Outcome State Fault Refusal := raiseFatal 0xEE s
/-- Opcode 0xEF (R104). -/
def execFatalEF (s : State) : Host.Outcome State Fault Refusal := raiseFatal 0xEF s
/-- Opcode 0xF0 (R104). -/
def execFatalF0 (s : State) : Host.Outcome State Fault Refusal := raiseFatal 0xF0 s
/-- Opcode 0xF2 (R104). -/
def execFatalF2 (s : State) : Host.Outcome State Fault Refusal := raiseFatal 0xF2 s
/-- Opcode 0xF3 (R104). -/
def execFatalF3 (s : State) : Host.Outcome State Fault Refusal := raiseFatal 0xF3 s
/-- Opcode 0xF4 (R104). -/
def execFatalF4 (s : State) : Host.Outcome State Fault Refusal := raiseFatal 0xF4 s
/-- Opcode 0xF6 (R104). -/
def execFatalF6 (s : State) : Host.Outcome State Fault Refusal := raiseFatal 0xF6 s
/-- Opcode 0xF7 (R104). -/
def execFatalF7 (s : State) : Host.Outcome State Fault Refusal := raiseFatal 0xF7 s
/-- Opcode 0xF8 (R104). -/
def execFatalF8 (s : State) : Host.Outcome State Fault Refusal := raiseFatal 0xF8 s
/-- Opcode 0xF9 (R104). -/
def execFatalF9 (s : State) : Host.Outcome State Fault Refusal := raiseFatal 0xF9 s
/-- Opcode 0xFB (R104). -/
def execFatalFB (s : State) : Host.Outcome State Fault Refusal := raiseFatal 0xFB s
/-- Opcode 0xFC (R104). -/
def execFatalFC (s : State) : Host.Outcome State Fault Refusal := raiseFatal 0xFC s
/-- Opcode 0xFD (R104). -/
def execFatalFD (s : State) : Host.Outcome State Fault Refusal := raiseFatal 0xFD s
/-- Opcode 0xFE (R104). -/
def execFatalFE (s : State) : Host.Outcome State Fault Refusal := raiseFatal 0xFE s
/-- Opcode 0xFF (R104). -/
def execFatalFF (s : State) : Host.Outcome State Fault Refusal := raiseFatal 0xFF s

end Sys2Proof.Machine
end

