-- ==== Sys2Proof/Machine/Load.lean ====
section
/-! DEFINITION. The absolute load (43_load.md R115). -/

namespace Sys2Proof.Machine

/-- `LD A,(nn)` (R115). The operand `nn` is `MemRead(pc, 2)`, read by the fetch; nothing is written between that read and
here, so it is the value R115 reads (log 5). pc passes the two operand bytes; A takes the byte at nn. -/
def execLdAnn (nn : Word) (s : State) : Host.Outcome State Fault Refusal :=
  let s' := advancePc s 2
  complete s.cfg.cycLdamm (writeReg s' .a (read8 s' nn))

end Sys2Proof.Machine
end

