-- ==== Sys2Proof/Machine/Stack.lean ====
section
/-! DEFINITION. PUSH qq (42_stack.md R105 to R109) and POP qq (R110 to R114). -/

namespace Sys2Proof.Machine

/-- PUSH qq (R105): the high byte at sp - 1, then the low byte at sp - 2; both register values are those before the
instruction. -/
def pushPair (p : Pair) (s : State) : Host.Outcome State Fault Refusal :=
  complete s.cfg.cycPush (pushByte (pushByte s (pairHigh s p)) (pairLow s p))

/-- POP qq (R110): the low byte from sp, then the high byte from sp + 1, each read before the register pair is written. -/
def popPair (p : Pair) (s : State) : Host.Outcome State Fault Refusal :=
  let lo := topByte s
  let s1 := dropByte s
  let hi := topByte s1
  complete s.cfg.cycPop (writePair (dropByte s1) p hi lo)

/-- `PUSH BC`, opcode 0xC5 (R106). -/
def execPushBC (s : State) : Host.Outcome State Fault Refusal := pushPair .bc s

/-- `PUSH DE`, opcode 0xD5 (R107). -/
def execPushDE (s : State) : Host.Outcome State Fault Refusal := pushPair .de s

/-- `PUSH HL`, opcode 0xE5 (R108). -/
def execPushHL (s : State) : Host.Outcome State Fault Refusal := pushPair .hl s

/-- `PUSH AF`, opcode 0xF5 (R109). -/
def execPushAF (s : State) : Host.Outcome State Fault Refusal := pushPair .af s

/-- `POP BC`, opcode 0xC1 (R111). -/
def execPopBC (s : State) : Host.Outcome State Fault Refusal := popPair .bc s

/-- `POP DE`, opcode 0xD1 (R112). -/
def execPopDE (s : State) : Host.Outcome State Fault Refusal := popPair .de s

/-- `POP HL`, opcode 0xE1 (R113). -/
def execPopHL (s : State) : Host.Outcome State Fault Refusal := popPair .hl s

/-- `POP AF`, opcode 0xF1 (R114). -/
def execPopAF (s : State) : Host.Outcome State Fault Refusal := popPair .af s

end Sys2Proof.Machine
end

