-- ==== Sys2Proof/Machine/Dispatch.lean ====
section
/-! DEFINITION. The dispatch (30_encoding.md R78, `execute h`): one arm per instruction, one meaning per arm. The state
given to it has pc one past the opcode, as R78 says of every handler. -/

namespace Sys2Proof.Machine

def exec (i : Instr) (s : State) : Host.Outcome State Fault Refusal :=
  match i with
  | .nop => Sys2Proof.Machine.execNop s
  | .addAB => Sys2Proof.Machine.execAddAB s
  | .addAC => Sys2Proof.Machine.execAddAC s
  | .addAD => Sys2Proof.Machine.execAddAD s
  | .addAE => Sys2Proof.Machine.execAddAE s
  | .addAH => Sys2Proof.Machine.execAddAH s
  | .addAL => Sys2Proof.Machine.execAddAL s
  | .addAA => Sys2Proof.Machine.execAddAA s
  | .cpB => Sys2Proof.Machine.execCpB s
  | .cpC => Sys2Proof.Machine.execCpC s
  | .cpD => Sys2Proof.Machine.execCpD s
  | .cpE => Sys2Proof.Machine.execCpE s
  | .cpH => Sys2Proof.Machine.execCpH s
  | .cpL => Sys2Proof.Machine.execCpL s
  | .cpA => Sys2Proof.Machine.execCpA s
  | .popBC => Sys2Proof.Machine.execPopBC s
  | .pushBC => Sys2Proof.Machine.execPushBC s
  | .popDE => Sys2Proof.Machine.execPopDE s
  | .pushDE => Sys2Proof.Machine.execPushDE s
  | .popHL => Sys2Proof.Machine.execPopHL s
  | .pushHL => Sys2Proof.Machine.execPushHL s
  | .popAF => Sys2Proof.Machine.execPopAF s
  | .pushAF => Sys2Proof.Machine.execPushAF s
  | .ldAnn nn => Sys2Proof.Machine.execLdAnn nn s
  | .fatal01 => Sys2Proof.Machine.execFatal01 s
  | .fatal02 => Sys2Proof.Machine.execFatal02 s
  | .fatal03 => Sys2Proof.Machine.execFatal03 s
  | .fatal04 => Sys2Proof.Machine.execFatal04 s
  | .fatal05 => Sys2Proof.Machine.execFatal05 s
  | .fatal06 => Sys2Proof.Machine.execFatal06 s
  | .fatal07 => Sys2Proof.Machine.execFatal07 s
  | .fatal08 => Sys2Proof.Machine.execFatal08 s
  | .fatal09 => Sys2Proof.Machine.execFatal09 s
  | .fatal0A => Sys2Proof.Machine.execFatal0A s
  | .fatal0B => Sys2Proof.Machine.execFatal0B s
  | .fatal0C => Sys2Proof.Machine.execFatal0C s
  | .fatal0D => Sys2Proof.Machine.execFatal0D s
  | .fatal0E => Sys2Proof.Machine.execFatal0E s
  | .fatal0F => Sys2Proof.Machine.execFatal0F s
  | .fatal10 => Sys2Proof.Machine.execFatal10 s
  | .fatal11 => Sys2Proof.Machine.execFatal11 s
  | .fatal12 => Sys2Proof.Machine.execFatal12 s
  | .fatal13 => Sys2Proof.Machine.execFatal13 s
  | .fatal14 => Sys2Proof.Machine.execFatal14 s
  | .fatal15 => Sys2Proof.Machine.execFatal15 s
  | .fatal16 => Sys2Proof.Machine.execFatal16 s
  | .fatal17 => Sys2Proof.Machine.execFatal17 s
  | .fatal18 => Sys2Proof.Machine.execFatal18 s
  | .fatal19 => Sys2Proof.Machine.execFatal19 s
  | .fatal1A => Sys2Proof.Machine.execFatal1A s
  | .fatal1B => Sys2Proof.Machine.execFatal1B s
  | .fatal1C => Sys2Proof.Machine.execFatal1C s
  | .fatal1D => Sys2Proof.Machine.execFatal1D s
  | .fatal1E => Sys2Proof.Machine.execFatal1E s
  | .fatal1F => Sys2Proof.Machine.execFatal1F s
  | .fatal20 => Sys2Proof.Machine.execFatal20 s
  | .fatal21 => Sys2Proof.Machine.execFatal21 s
  | .fatal22 => Sys2Proof.Machine.execFatal22 s
  | .fatal23 => Sys2Proof.Machine.execFatal23 s
  | .fatal24 => Sys2Proof.Machine.execFatal24 s
  | .fatal25 => Sys2Proof.Machine.execFatal25 s
  | .fatal26 => Sys2Proof.Machine.execFatal26 s
  | .fatal27 => Sys2Proof.Machine.execFatal27 s
  | .fatal28 => Sys2Proof.Machine.execFatal28 s
  | .fatal29 => Sys2Proof.Machine.execFatal29 s
  | .fatal2A => Sys2Proof.Machine.execFatal2A s
  | .fatal2B => Sys2Proof.Machine.execFatal2B s
  | .fatal2C => Sys2Proof.Machine.execFatal2C s
  | .fatal2D => Sys2Proof.Machine.execFatal2D s
  | .fatal2E => Sys2Proof.Machine.execFatal2E s
  | .fatal2F => Sys2Proof.Machine.execFatal2F s
  | .fatal30 => Sys2Proof.Machine.execFatal30 s
  | .fatal31 => Sys2Proof.Machine.execFatal31 s
  | .fatal32 => Sys2Proof.Machine.execFatal32 s
  | .fatal33 => Sys2Proof.Machine.execFatal33 s
  | .fatal34 => Sys2Proof.Machine.execFatal34 s
  | .fatal35 => Sys2Proof.Machine.execFatal35 s
  | .fatal36 => Sys2Proof.Machine.execFatal36 s
  | .fatal37 => Sys2Proof.Machine.execFatal37 s
  | .fatal38 => Sys2Proof.Machine.execFatal38 s
  | .fatal39 => Sys2Proof.Machine.execFatal39 s
  | .fatal3A => Sys2Proof.Machine.execFatal3A s
  | .fatal3B => Sys2Proof.Machine.execFatal3B s
  | .fatal3C => Sys2Proof.Machine.execFatal3C s
  | .fatal3D => Sys2Proof.Machine.execFatal3D s
  | .fatal3E => Sys2Proof.Machine.execFatal3E s
  | .fatal3F => Sys2Proof.Machine.execFatal3F s
  | .fatal40 => Sys2Proof.Machine.execFatal40 s
  | .fatal41 => Sys2Proof.Machine.execFatal41 s
  | .fatal42 => Sys2Proof.Machine.execFatal42 s
  | .fatal43 => Sys2Proof.Machine.execFatal43 s
  | .fatal44 => Sys2Proof.Machine.execFatal44 s
  | .fatal45 => Sys2Proof.Machine.execFatal45 s
  | .fatal46 => Sys2Proof.Machine.execFatal46 s
  | .fatal47 => Sys2Proof.Machine.execFatal47 s
  | .fatal48 => Sys2Proof.Machine.execFatal48 s
  | .fatal49 => Sys2Proof.Machine.execFatal49 s
  | .fatal4A => Sys2Proof.Machine.execFatal4A s
  | .fatal4B => Sys2Proof.Machine.execFatal4B s
  | .fatal4C => Sys2Proof.Machine.execFatal4C s
  | .fatal4D => Sys2Proof.Machine.execFatal4D s
  | .fatal4E => Sys2Proof.Machine.execFatal4E s
  | .fatal4F => Sys2Proof.Machine.execFatal4F s
  | .fatal50 => Sys2Proof.Machine.execFatal50 s
  | .fatal51 => Sys2Proof.Machine.execFatal51 s
  | .fatal52 => Sys2Proof.Machine.execFatal52 s
  | .fatal53 => Sys2Proof.Machine.execFatal53 s
  | .fatal54 => Sys2Proof.Machine.execFatal54 s
  | .fatal55 => Sys2Proof.Machine.execFatal55 s
  | .fatal56 => Sys2Proof.Machine.execFatal56 s
  | .fatal57 => Sys2Proof.Machine.execFatal57 s
  | .fatal58 => Sys2Proof.Machine.execFatal58 s
  | .fatal59 => Sys2Proof.Machine.execFatal59 s
  | .fatal5A => Sys2Proof.Machine.execFatal5A s
  | .fatal5B => Sys2Proof.Machine.execFatal5B s
  | .fatal5C => Sys2Proof.Machine.execFatal5C s
  | .fatal5D => Sys2Proof.Machine.execFatal5D s
  | .fatal5E => Sys2Proof.Machine.execFatal5E s
  | .fatal5F => Sys2Proof.Machine.execFatal5F s
  | .fatal60 => Sys2Proof.Machine.execFatal60 s
  | .fatal61 => Sys2Proof.Machine.execFatal61 s
  | .fatal62 => Sys2Proof.Machine.execFatal62 s
  | .fatal63 => Sys2Proof.Machine.execFatal63 s
  | .fatal64 => Sys2Proof.Machine.execFatal64 s
  | .fatal65 => Sys2Proof.Machine.execFatal65 s
  | .fatal66 => Sys2Proof.Machine.execFatal66 s
  | .fatal67 => Sys2Proof.Machine.execFatal67 s
  | .fatal68 => Sys2Proof.Machine.execFatal68 s
  | .fatal69 => Sys2Proof.Machine.execFatal69 s
  | .fatal6A => Sys2Proof.Machine.execFatal6A s
  | .fatal6B => Sys2Proof.Machine.execFatal6B s
  | .fatal6C => Sys2Proof.Machine.execFatal6C s
  | .fatal6D => Sys2Proof.Machine.execFatal6D s
  | .fatal6E => Sys2Proof.Machine.execFatal6E s
  | .fatal6F => Sys2Proof.Machine.execFatal6F s
  | .fatal70 => Sys2Proof.Machine.execFatal70 s
  | .fatal71 => Sys2Proof.Machine.execFatal71 s
  | .fatal72 => Sys2Proof.Machine.execFatal72 s
  | .fatal73 => Sys2Proof.Machine.execFatal73 s
  | .fatal74 => Sys2Proof.Machine.execFatal74 s
  | .fatal75 => Sys2Proof.Machine.execFatal75 s
  | .fatal76 => Sys2Proof.Machine.execFatal76 s
  | .fatal77 => Sys2Proof.Machine.execFatal77 s
  | .fatal78 => Sys2Proof.Machine.execFatal78 s
  | .fatal79 => Sys2Proof.Machine.execFatal79 s
  | .fatal7A => Sys2Proof.Machine.execFatal7A s
  | .fatal7B => Sys2Proof.Machine.execFatal7B s
  | .fatal7C => Sys2Proof.Machine.execFatal7C s
  | .fatal7D => Sys2Proof.Machine.execFatal7D s
  | .fatal7E => Sys2Proof.Machine.execFatal7E s
  | .fatal7F => Sys2Proof.Machine.execFatal7F s
  | .fatal86 => Sys2Proof.Machine.execFatal86 s
  | .fatal88 => Sys2Proof.Machine.execFatal88 s
  | .fatal89 => Sys2Proof.Machine.execFatal89 s
  | .fatal8A => Sys2Proof.Machine.execFatal8A s
  | .fatal8B => Sys2Proof.Machine.execFatal8B s
  | .fatal8C => Sys2Proof.Machine.execFatal8C s
  | .fatal8D => Sys2Proof.Machine.execFatal8D s
  | .fatal8E => Sys2Proof.Machine.execFatal8E s
  | .fatal8F => Sys2Proof.Machine.execFatal8F s
  | .fatal90 => Sys2Proof.Machine.execFatal90 s
  | .fatal91 => Sys2Proof.Machine.execFatal91 s
  | .fatal92 => Sys2Proof.Machine.execFatal92 s
  | .fatal93 => Sys2Proof.Machine.execFatal93 s
  | .fatal94 => Sys2Proof.Machine.execFatal94 s
  | .fatal95 => Sys2Proof.Machine.execFatal95 s
  | .fatal96 => Sys2Proof.Machine.execFatal96 s
  | .fatal97 => Sys2Proof.Machine.execFatal97 s
  | .fatal98 => Sys2Proof.Machine.execFatal98 s
  | .fatal99 => Sys2Proof.Machine.execFatal99 s
  | .fatal9A => Sys2Proof.Machine.execFatal9A s
  | .fatal9B => Sys2Proof.Machine.execFatal9B s
  | .fatal9C => Sys2Proof.Machine.execFatal9C s
  | .fatal9D => Sys2Proof.Machine.execFatal9D s
  | .fatal9E => Sys2Proof.Machine.execFatal9E s
  | .fatal9F => Sys2Proof.Machine.execFatal9F s
  | .fatalA0 => Sys2Proof.Machine.execFatalA0 s
  | .fatalA1 => Sys2Proof.Machine.execFatalA1 s
  | .fatalA2 => Sys2Proof.Machine.execFatalA2 s
  | .fatalA3 => Sys2Proof.Machine.execFatalA3 s
  | .fatalA4 => Sys2Proof.Machine.execFatalA4 s
  | .fatalA5 => Sys2Proof.Machine.execFatalA5 s
  | .fatalA6 => Sys2Proof.Machine.execFatalA6 s
  | .fatalA7 => Sys2Proof.Machine.execFatalA7 s
  | .fatalA8 => Sys2Proof.Machine.execFatalA8 s
  | .fatalA9 => Sys2Proof.Machine.execFatalA9 s
  | .fatalAA => Sys2Proof.Machine.execFatalAA s
  | .fatalAB => Sys2Proof.Machine.execFatalAB s
  | .fatalAC => Sys2Proof.Machine.execFatalAC s
  | .fatalAD => Sys2Proof.Machine.execFatalAD s
  | .fatalAE => Sys2Proof.Machine.execFatalAE s
  | .fatalAF => Sys2Proof.Machine.execFatalAF s
  | .fatalB0 => Sys2Proof.Machine.execFatalB0 s
  | .fatalB1 => Sys2Proof.Machine.execFatalB1 s
  | .fatalB2 => Sys2Proof.Machine.execFatalB2 s
  | .fatalB3 => Sys2Proof.Machine.execFatalB3 s
  | .fatalB4 => Sys2Proof.Machine.execFatalB4 s
  | .fatalB5 => Sys2Proof.Machine.execFatalB5 s
  | .fatalB6 => Sys2Proof.Machine.execFatalB6 s
  | .fatalB7 => Sys2Proof.Machine.execFatalB7 s
  | .fatalBE => Sys2Proof.Machine.execFatalBE s
  | .fatalC0 => Sys2Proof.Machine.execFatalC0 s
  | .fatalC2 => Sys2Proof.Machine.execFatalC2 s
  | .fatalC3 => Sys2Proof.Machine.execFatalC3 s
  | .fatalC4 => Sys2Proof.Machine.execFatalC4 s
  | .fatalC6 => Sys2Proof.Machine.execFatalC6 s
  | .fatalC7 => Sys2Proof.Machine.execFatalC7 s
  | .fatalC8 => Sys2Proof.Machine.execFatalC8 s
  | .fatalC9 => Sys2Proof.Machine.execFatalC9 s
  | .fatalCA => Sys2Proof.Machine.execFatalCA s
  | .fatalCB => Sys2Proof.Machine.execFatalCB s
  | .fatalCC => Sys2Proof.Machine.execFatalCC s
  | .fatalCD => Sys2Proof.Machine.execFatalCD s
  | .fatalCE => Sys2Proof.Machine.execFatalCE s
  | .fatalCF => Sys2Proof.Machine.execFatalCF s
  | .fatalD0 => Sys2Proof.Machine.execFatalD0 s
  | .fatalD2 => Sys2Proof.Machine.execFatalD2 s
  | .fatalD3 => Sys2Proof.Machine.execFatalD3 s
  | .fatalD4 => Sys2Proof.Machine.execFatalD4 s
  | .fatalD6 => Sys2Proof.Machine.execFatalD6 s
  | .fatalD7 => Sys2Proof.Machine.execFatalD7 s
  | .fatalD8 => Sys2Proof.Machine.execFatalD8 s
  | .fatalD9 => Sys2Proof.Machine.execFatalD9 s
  | .fatalDA => Sys2Proof.Machine.execFatalDA s
  | .fatalDB => Sys2Proof.Machine.execFatalDB s
  | .fatalDC => Sys2Proof.Machine.execFatalDC s
  | .fatalDD => Sys2Proof.Machine.execFatalDD s
  | .fatalDE => Sys2Proof.Machine.execFatalDE s
  | .fatalDF => Sys2Proof.Machine.execFatalDF s
  | .fatalE0 => Sys2Proof.Machine.execFatalE0 s
  | .fatalE2 => Sys2Proof.Machine.execFatalE2 s
  | .fatalE3 => Sys2Proof.Machine.execFatalE3 s
  | .fatalE4 => Sys2Proof.Machine.execFatalE4 s
  | .fatalE6 => Sys2Proof.Machine.execFatalE6 s
  | .fatalE7 => Sys2Proof.Machine.execFatalE7 s
  | .fatalE8 => Sys2Proof.Machine.execFatalE8 s
  | .fatalE9 => Sys2Proof.Machine.execFatalE9 s
  | .fatalEA => Sys2Proof.Machine.execFatalEA s
  | .fatalEB => Sys2Proof.Machine.execFatalEB s
  | .fatalEC => Sys2Proof.Machine.execFatalEC s
  | .fatalED => Sys2Proof.Machine.execFatalED s
  | .fatalEE => Sys2Proof.Machine.execFatalEE s
  | .fatalEF => Sys2Proof.Machine.execFatalEF s
  | .fatalF0 => Sys2Proof.Machine.execFatalF0 s
  | .fatalF2 => Sys2Proof.Machine.execFatalF2 s
  | .fatalF3 => Sys2Proof.Machine.execFatalF3 s
  | .fatalF4 => Sys2Proof.Machine.execFatalF4 s
  | .fatalF6 => Sys2Proof.Machine.execFatalF6 s
  | .fatalF7 => Sys2Proof.Machine.execFatalF7 s
  | .fatalF8 => Sys2Proof.Machine.execFatalF8 s
  | .fatalF9 => Sys2Proof.Machine.execFatalF9 s
  | .fatalFB => Sys2Proof.Machine.execFatalFB s
  | .fatalFC => Sys2Proof.Machine.execFatalFC s
  | .fatalFD => Sys2Proof.Machine.execFatalFD s
  | .fatalFE => Sys2Proof.Machine.execFatalFE s
  | .fatalFF => Sys2Proof.Machine.execFatalFF s

end Sys2Proof.Machine
end

