-- ==== Sys2Proof/Machine/Step.lean ====
section
/-! DEFINITION. The system step (30_encoding.md R80): the stopped test, the instruction cycle of R78, and, inside the
meaning of a completed instruction, the display advance. -/

namespace Sys2Proof.Machine

/-- One step (R80, R78): a stopped machine answers its record; otherwise the bootstrap exit is tested, the instruction at
pc fetched and decoded, and its handler run with pc one past the opcode. -/
def step (s : State) : Host.Outcome State Fault Refusal :=
  if s.cpu.stopped then stoppedAnswer s
  else
    match decode (fetchBytes (bootExit s)) with
    | .ok (i, _) => exec i (pastOpcode (bootExit s))
    | .error e => undecodableAnswer e

/-- The state with an instruction placed where the next step fetches it (log 1). -/
def State.withFetchWord (s : State) (nbits w : Nat) : State := pokeFetchWord s nbits w

end Sys2Proof.Machine
end

