-- ==== Sys2Proof/Machine/Port.lean ====
section
/-! DEFINITION. The host interface (00_scope.md R9; 70_reset_and_hazards.md R154): reset, load_cartridge, and step with the
result it returns. The host has no other move; reading the state is its inspect. -/

namespace Sys2Proof.Machine

/-- What `step()` returns to the host (R9). -/
inductive StepResult where
  | running
  | stopped (opcode : Byte) (pc : Word)
  deriving DecidableEq, Repr

/-- The `reset` port (R150): every element at its reset value; BOOT_ROM, CART, CART_LEN and the parameters unchanged. It
raises no present, so the record of frames already handed out stays as it is (log 10). -/
def hostReset (s : State) : State := State.resetWith s.cfg s.bus.bootRom s.bus.cart s.bus.cartLen s.lcd.presents

/-- No step has been taken since the last reset: a completed instruction makes clk_m positive (its cost is at least 1) and
the only other step takes the fatal stop (log 11). -/
def beforeFirstStep (s : State) : Bool := decide (s.cpu.clkM = 0) && !s.cpu.stopped

/-- The `load_cartridge` port (20_memory.md R58): the image is stored verbatim and replaces any earlier one, whatever its
length. The host may do this only between a reset and the first step after it (R154). -/
def loadCartridge (bytes : List Byte) (s : State) : Host.Outcome State Fault Refusal :=
  if beforeFirstStep s then
    .next { s with bus := { s.bus with cart := Memory.ofBytes 0 bytes, cartLen := bytes.length } }
  else .refused .loadDuringRun

/-- The fatal-status record as `step()` reports it (10_state.md R28). -/
def stepResult (s : State) : StepResult :=
  if s.cpu.stopped then .stopped s.cpu.faultOpcode s.cpu.faultPc else .running

/-- The `step()` port (R80): the state after the step and what is returned. The step that takes the fatal stop and every
later one return the record; the later ones change nothing. -/
def hostStep (s : State) : State × StepResult :=
  match step s with
  | .next t => (t, stepResult t)
  | .fault _ => (s, stepResult s)
  | .refused _ => (s, stepResult s)

end Sys2Proof.Machine
end

