-- ==== Sys2Proof/Safety.lean ====
section
/-! DEFINITION. The terms the claims are stated in: which opcodes run, which addresses store, which addresses share a byte,
what a background pixel and the display's position are by the spec's closed forms, and the invariant of 10_state.md R40. -/

namespace Sys2Proof.Machine

/-- A run is safe while the fatal stop has not been taken (70_reset_and_hazards.md R155: a stopped state is a fault). -/
def Running (s : State) : Prop := s.cpu.stopped = false

/-- The 24 admitted opcodes, in the order of the second table of 30_encoding.md R74. -/
def admittedOpcodes : List Byte :=
  [0x00] ++ [0x80, 0x81, 0x82, 0x83, 0x84, 0x85, 0x87] ++ [0xB8, 0xB9, 0xBA, 0xBB, 0xBC, 0xBD, 0xBF] ++
    [0xC1, 0xC5, 0xD1, 0xD5, 0xE1, 0xE5, 0xF1, 0xF5] ++ [0xFA]

/-- The address lies in a writable region (42_stack.md R110 and 90_conflicts.md C12: VRAM, ERAM, WRAM and its mirror, OAM,
ZRAM; the ranges of 20_memory.md R46). -/
def WritableAddr (a : Word) : Prop :=
  (0x8000 ≤ a.toNat ∧ a.toNat < 0xFEA0) ∨ (0xFF80 ≤ a.toNat ∧ a.toNat < 0xFFFF)

/-- Two addresses select the same stored byte: they are equal, or one is the working-RAM mirror of the other
(20_memory.md R51). -/
def SameByte (a b : Word) : Prop :=
  a = b ∨ (0xC000 ≤ a.toNat ∧ a.toNat < 0xDE00 ∧ b.toNat = a.toNat + 0x2000) ∨
    (0xC000 ≤ b.toNat ∧ b.toNat < 0xDE00 ∧ a.toNat = b.toNat + 0x2000)

/-- The state after the test at the start of an instruction cycle (20_memory.md R57), in the claims' own words: bootstrap
mode is over once an instruction boundary falls at 0x0100, and nothing else changes. -/
def afterBootTest (s : State) : State :=
  { s with bus := { s.bus with inboot := if s.cpu.pc = 0x0100 then false else s.bus.inboot } }

/-- The zero flag of a masked result, in the polarity the parameter gives (40_alu.md R85). -/
def zeroBit (p : ZeroPolarity) (masked : Nat) : Bool :=
  match p with
  | .setWhenZero => decide (masked = 0)
  | .setWhenNonzero => decide (masked ≠ 0)

/-- The pixel that 50_display.md R130 shows at column `x` of line `line`, by its closed form: background row
`mask8(line + scy)`, background column `mask8(scx + x)`, the map entry of R128, the tile of R129, the color of R131. -/
def backgroundPixel (d : Display) (line x : Nat) : Rgba :=
  let bgy := (line + d.scy.toNat) % 256
  let bgx := (d.scx.toNat + x) % 256
  let base := if d.bgmapSel then 0x1C00 else 0x1800
  let raw := (Memory.read d.vram (base + 32 * (bgy / 8) + bgx / 8)).toNat
  let tile := if d.tilesetSel = true ∧ raw < 128 then raw + 256 else raw
  have hraw : raw < 256 := BitVec.isLt _
  have htile : tile < 384 := by
    have : tile = if d.tilesetSel = true ∧ raw < 128 then raw + 256 else raw := rfl
    split at this <;> omega
  d.palette[((d.tc[tile][bgy % 8]'(Nat.mod_lt _ (by decide)))[bgx % 8]'(Nat.mod_lt _ (by decide))).toNat]'(BitVec.isLt _)

/-- The display's timing state `ticks` ticks after line 0, mode 2, modeclock 0, by the line sequence of 50_display.md
R123: line, mode and modeclock, with 456 ticks a line and 70,224 ticks a frame. -/
def timingAfter (ticks : Nat) : Nat × Mode × Nat :=
  let r := ticks % 70224
  let line := r / 456
  let u := r % 456
  if line < 143 then
    if u < 80 then (line, .oamScan, u)
    else if u < 252 then (line, .vramScan, u - 80)
    else (line, .hblank, u - 252)
  else (line, .vblank, u)

/-- The invariant of 10_state.md R40, items 2 to 7, with the canonical form of every byte store. Item 1 is the fields'
types; items 8 and 9 are about steps. -/
structure Inv (s : State) : Prop where
  /-- Item 2 (R20): the low nibble of F is 0. -/
  flagsLow : s.cpu.f &&& 0x0F = 0
  /-- Item 3 (R27): one machine cycle is four ticks. -/
  clocks : s.cpu.clkT = 4 * s.cpu.clkM
  /-- Item 4: the line is in 0..153. -/
  lineRange : s.lcd.line ≤ 153
  /-- Item 5, visible modes: the line is in 0..142. -/
  visibleLines : s.lcd.mode ≠ .vblank → s.lcd.line ≤ 142
  /-- Item 5, VBlank: the line is in 143..153. -/
  vblankLines : s.lcd.mode = .vblank → 143 ≤ s.lcd.line
  /-- Item 6: under CARRY the mode clock is below the mode's threshold. -/
  modeclockBelow : s.cfg.overshootMode = .carry → s.lcd.modeclock < threshold s.lcd.mode
  /-- Item 7 (R37): the tile cache is the decode of VRAM. -/
  tilesCoherent : ∀ (tile : Fin 384) (row : Fin 8), s.lcd.tc[tile][row] =
    decodeRow (Memory.read s.lcd.vram (16 * tile.val + 2 * row.val))
      (Memory.read s.lcd.vram (16 * tile.val + 2 * row.val + 1))
  /-- The bus's stores are in canonical form, each of the size R30 gives. -/
  busStores : Memory.wf 0x100 s.bus.bootRom = true ∧ Memory.wf s.bus.cartLen s.bus.cart = true ∧
    Memory.wf 0x2000 s.bus.wram = true ∧ Memory.wf 0x2000 s.bus.eram = true ∧ Memory.wf 0x7F s.bus.zram = true
  /-- The display's stores are in canonical form, each of the size R30 gives. -/
  lcdStores : Memory.wf 0x2000 s.lcd.vram = true ∧ Memory.wf 0xA0 s.lcd.oam = true

/-- The seven ADD A,r instructions: opcode, instruction, source register (40_alu.md R88 to R94). -/
def addForms : List (Byte × Instr × (Cpu → Byte)) :=
  [(0x80, .addAB, Cpu.b), (0x81, .addAC, Cpu.c), (0x82, .addAD, Cpu.d), (0x83, .addAE, Cpu.e),
    (0x84, .addAH, Cpu.h), (0x85, .addAL, Cpu.l), (0x87, .addAA, Cpu.a)]

/-- The seven CP r instructions: opcode, instruction, right operand (40_alu.md R96 to R102). -/
def cpForms : List (Byte × Instr × (Cpu → Byte)) :=
  [(0xB8, .cpB, Cpu.b), (0xB9, .cpC, Cpu.c), (0xBA, .cpD, Cpu.d), (0xBB, .cpE, Cpu.e),
    (0xBC, .cpH, Cpu.h), (0xBD, .cpL, Cpu.l), (0xBF, .cpA, Cpu.a)]

/-- The four PUSH instructions: opcode, instruction, high and low register of the pair (42_stack.md R106 to R109). -/
def pushForms : List (Byte × Instr × (Cpu → Byte) × (Cpu → Byte)) :=
  [(0xC5, .pushBC, Cpu.b, Cpu.c), (0xD5, .pushDE, Cpu.d, Cpu.e), (0xE5, .pushHL, Cpu.h, Cpu.l),
    (0xF5, .pushAF, Cpu.a, Cpu.f)]

/-- The four POP instructions: opcode, instruction, high and low register of the pair, and the mask the low byte is stored
under: 0xF0 for F (10_state.md R20), all ones for the others (42_stack.md R111 to R114). -/
def popForms : List (Byte × Instr × (Cpu → Byte) × (Cpu → Byte) × Byte) :=
  [(0xC1, .popBC, Cpu.b, Cpu.c, 0xFF), (0xD1, .popDE, Cpu.d, Cpu.e, 0xFF), (0xE1, .popHL, Cpu.h, Cpu.l, 0xFF),
    (0xF1, .popAF, Cpu.a, Cpu.f, 0xF0)]

/-- The PUSH and the POP of one pair, with its two registers. -/
def stackPairs : List (Instr × Instr × (Cpu → Byte) × (Cpu → Byte)) :=
  [(.pushBC, .popBC, Cpu.b, Cpu.c), (.pushDE, .popDE, Cpu.d, Cpu.e), (.pushHL, .popHL, Cpu.h, Cpu.l),
    (.pushAF, .popAF, Cpu.a, Cpu.f)]

/-- The cost in machine cycles of an admitted opcode (the table of 30_encoding.md R79). -/
def costOfOpcode (cfg : Config) (op : Byte) : Nat :=
  if op = 0x00 then 1
  else if op ∈ [0x80, 0x81, 0x82, 0x83, 0x84, 0x85, 0x87] then cfg.cycAdd
  else if op ∈ [0xB8, 0xB9, 0xBA, 0xBB, 0xBC, 0xBD, 0xBF] then cfg.cycCp
  else if op ∈ [0xC5, 0xD5, 0xE5, 0xF5] then cfg.cycPush
  else if op ∈ [0xC1, 0xD1, 0xE1, 0xF1] then cfg.cycPop
  else cfg.cycLdamm

/-- What completing an instruction of cost `m` does to the counters and the display: the counters grow by m and 4*m
(30_encoding.md R79), and the display advances by 4*m ticks from `d`, the display as the instruction's own writes left it
(R80). -/
def Completed (m : Nat) (s : State) (d : Display) (t : State) : Prop :=
  t.cpu.clkM = s.cpu.clkM + m ∧ t.cpu.clkT = s.cpu.clkT + 4 * m ∧ t.lcd = displayStep s.cfg.overshootMode (4 * m) d

end Sys2Proof.Machine
end

