-- ==== Sys2Proof/Certificates/Slice0/Obligations.lean ====
section
/-! DEFINITION. The statements for the provers. Each docstring names the rule of the spec it formalises; OBLIGATIONS.json
lists them with their titles and quotes. -/

open Sys2Proof Sys2Proof.Machine

-- ---- encoding ----

/-- Decoding the bytes of any instruction gives the instruction back, with every value of its operand and with the bytes
that follow untouched (30_encoding.md R68 to R75). -/
def Obligations.DecodeOfEncode : Prop :=
  ∀ (i : Instr) (rest : List Byte), decode (encode i ++ rest) = .ok (i, rest)

/-- Every word has one meaning: bytes that decode are the encoding of what they decode to (30_encoding.md R73, R76). -/
def Obligations.EncodeOfDecode : Prop :=
  ∀ (bytes rest : List Byte) (i : Instr), decode bytes = .ok (i, rest) → encode i ++ rest = bytes

/-- One word of each family, written out from the fields of 30_encoding.md R69 to R72, decodes to its instruction. -/
def Obligations.SampleWordsDecode : Prop :=
  decode [0b00000000] = .ok (.nop, []) ∧
  decode [0b10000011] = .ok (.addAE, []) ∧
  decode [0b10111100] = .ok (.cpH, []) ∧
  decode [0b11110101] = .ok (.pushAF, []) ∧
  decode [0b11100001] = .ok (.popHL, []) ∧
  decode [0b11111010, 0x34, 0x12] = .ok (.ldAnn 0x1234, []) ∧
  decode [0b11001011, 0x00] = .ok (.fatalCB, [0x00])

/-- 30_encoding.md R68: the opcode alone fixes the length, 3 bytes for 0xFA and 1 for every other opcode, admitted or not;
too few bytes are no instruction. -/
def Obligations.OpcodeFixesLength : Prop :=
  (∀ (op : Byte) (rest : List Byte), op ≠ 0xFA → ∃ i, decode (op :: rest) = .ok (i, rest) ∧ (encode i).length = 1) ∧
  (∀ (lo hi : Byte) (rest : List Byte), ∃ nn : Word, nn.toNat = lo.toNat + 256 * hi.toNat ∧
    decode (0xFA :: lo :: hi :: rest) = .ok (.ldAnn nn, rest) ∧ (encode (.ldAnn nn)).length = 3) ∧
  decode [] = .error .noOpcode ∧ decode [0xFA] = .error .missingOperand ∧
  (∀ lo : Byte, decode [0xFA, lo] = .error .missingOperand)

/-- 30_encoding.md R75: the 232 opcodes outside the admitted set are exactly the bytes the rule lists, and a step that
fetches one of them takes the fatal stop with it. -/
def Obligations.UnimplementedOpcodes : Prop :=
  (∀ op : Byte, op ∉ admittedOpcodes ↔
    (0x01 ≤ op.toNat ∧ op.toNat ≤ 0x7F) ∨ (0x88 ≤ op.toNat ∧ op.toNat ≤ 0xB7) ∨
      op ∈ ([0x86, 0xBE, 0xC0, 0xC2, 0xC3, 0xC4, 0xD2, 0xD3, 0xD4, 0xE2, 0xE3, 0xE4, 0xF2, 0xF3, 0xF4] : List Byte) ∨
      (0xC6 ≤ op.toNat ∧ op.toNat ≤ 0xD0) ∨ (0xD6 ≤ op.toNat ∧ op.toNat ≤ 0xE0) ∨
      (0xE6 ≤ op.toNat ∧ op.toNat ≤ 0xF0) ∨ (0xF6 ≤ op.toNat ∧ op.toNat ≤ 0xF9) ∨ 0xFB ≤ op.toNat) ∧
  admittedOpcodes.length = 24 ∧ admittedOpcodes.Nodup ∧
  (∀ s : State, Running s → read8 (afterBootTest s) s.cpu.pc ∉ admittedOpcodes →
    ∃ t, step s = .next t ∧ t.cpu.stopped = true ∧ t.cpu.faultOpcode = read8 (afterBootTest s) s.cpu.pc)

-- ---- the step ----

/-- 30_encoding.md R78 and R80 in the model's form (log 5, log 8): a step runs the instruction that the bytes at pc decode
to. After the bootstrap test, the bytes are read at pc, pc + 1 and pc + 2 (mod 2^16), and the instruction runs with pc one
past its opcode. R78 and R80 put the cost and display_step after the handler, and R115 reads the operand in it. That the
step is exec alone, with the cost and the display advance inside it (log 8) and the operand read with the fetch (log 5),
is the model's form. -/
def Obligations.StepRunsDecodedInstruction : Prop :=
  ∀ (s : State) (i : Instr) (rest : List Byte), Running s →
    decode [read8 (afterBootTest s) s.cpu.pc, read8 (afterBootTest s) (s.cpu.pc + 1),
      read8 (afterBootTest s) (s.cpu.pc + 2)] = .ok (i, rest) →
    step s = exec i { afterBootTest s with cpu := { s.cpu with pc := s.cpu.pc + 1 } }

/-- 60_exceptions.md R139: on a stopped state every later step, however many, answers the same record and changes nothing;
only reset ends it. That the host's other move, a cartridge load, is refused by name there is the model's form (log 11) of
what 20_memory.md R58 and 70_reset_and_hazards.md R154 say: the host has no such move once a step has been taken. -/
def Obligations.StopIsFinalUntilReset : Prop :=
  ∀ s : State, s.cpu.stopped = true →
    step s = .fault (.stopped s.cpu.faultOpcode s.cpu.faultPc) ∧
    (∀ n : Nat, hostStep ((fun r => (hostStep r).1)^[n] s) = (s, .stopped s.cpu.faultOpcode s.cpu.faultPc)) ∧
    (∀ bytes : List Byte, loadCartridge bytes s = .refused .loadDuringRun) ∧
    Running (hostReset s)

/-- 20_memory.md R43, 60_exceptions.md R136: while it runs, the machine answers every step with a next state: no access
and no arithmetic raises anything. That the fatal stop itself is a next state that carries the record is the model's form
(log 6): R80 has that step return the record to the host, as hostStep does here. -/
def Obligations.RunningStepAnswersNext : Prop :=
  ∀ s : State, Running s → ∃ t, step s = .next t ∧
    hostStep s = (t, if t.cpu.stopped then .stopped t.cpu.faultOpcode t.cpu.faultPc else .running)

/-- 20_memory.md R57: bootstrap mode ends at an instruction boundary at 0x0100 and at no other point; a pc that passes
0x0100 inside an instruction does not end it; only reset sets it. -/
def Obligations.BootstrapExitSampling : Prop :=
  (∀ s t : State, step s = .next t →
    t.bus.inboot = if s.cpu.pc = 0x0100 then false else s.bus.inboot) ∧
  (∀ s : State, (hostReset s).bus.inboot = s.cfg.bootAtReset)

/-- 41_control.md R104 with 30_encoding.md R78: every instruction whose code is one unimplemented byte takes the fatal
stop with that byte, and changes nothing else, the cycle counters and the display among it. R104 records op_pc. That the
handler records pc - 1, from every state, is the model's inference (log 7) from R78, which runs a handler with pc = op_pc
+ 1. -/
def Obligations.FatalHandlerTakesStop : Prop :=
  ∀ (i : Instr) (op : Byte) (s : State), encode i = [op] → op ∉ admittedOpcodes →
    exec i s = .next { s with cpu := { s.cpu with
      stopped := true, faultOpcode := op, faultPc := s.cpu.pc - 1 } }

/-- 60_exceptions.md R137 and R138: a step that fetches an unimplemented opcode records it with the address it was fetched
from, leaves pc one past it, reports the record, and changes nothing else. -/
def Obligations.FatalStepIsPrecise : Prop :=
  ∀ s : State, Running s → read8 (afterBootTest s) s.cpu.pc ∉ admittedOpcodes →
    ∃ t, t = { afterBootTest s with cpu := { s.cpu with
        pc := s.cpu.pc + 1, stopped := true
        faultOpcode := read8 (afterBootTest s) s.cpu.pc, faultPc := s.cpu.pc } } ∧
      step s = .next t ∧
      hostStep s = (t, .stopped (read8 (afterBootTest s) s.cpu.pc) s.cpu.pc)

/-- 30_encoding.md R79: the counters of a completed step grow by the cost of its opcode, a constant of the opcode alone,
and by four times it; a step that takes the fatal stop costs nothing (60_exceptions.md R138). -/
def Obligations.CountersGrowByOpcodeCost : Prop :=
  ∀ s t : State, step s = .next t →
    if t.cpu.stopped = true then t.cpu.clkM = s.cpu.clkM ∧ t.cpu.clkT = s.cpu.clkT
    else t.cpu.clkM = s.cpu.clkM + costOfOpcode s.cfg (read8 (afterBootTest s) s.cpu.pc) ∧
      t.cpu.clkT = s.cpu.clkT + 4 * costOfOpcode s.cfg (read8 (afterBootTest s) s.cpu.pc)

-- ---- the ALU ----

/-- 40_alu.md R81 to R86: the ALU's result and the flag byte, for both operations, both polarities and all operands; the
half-carry in both forms of R84, whose equality the spec marks as derived. -/
def Obligations.AluOutputs : Prop :=
  ∀ (p : ZeroPolarity) (op : AluOp) (x y : Byte),
    let u : Int := match op with
      | .add => (x.toNat : Int) + y.toNat
      | .sub => (x.toNat : Int) - y.toNat
    ((aluResult op x y).toNat : Int) = u % 256 ∧
    (aluFlags p op x y).getLsbD 7 = zeroBit p (u % 256).toNat ∧
    (aluFlags p op x y).getLsbD 6 = decide (op = .sub) ∧
    (aluFlags p op x y).getLsbD 5 = (x ^^^ y ^^^ BitVec.ofInt 8 u).getLsbD 4 ∧
    (aluFlags p op x y).getLsbD 5 = (match op with
      | .add => decide (x.toNat % 16 + y.toNat % 16 > 15)
      | .sub => decide (x.toNat % 16 < y.toNat % 16)) ∧
    (aluFlags p op x y).getLsbD 4 = (match op with
      | .add => decide (u > 255)
      | .sub => decide (u < 0)) ∧
    aluFlags p op x y &&& 0x0F = 0

/-- 40_alu.md R87 to R94: each ADD A,r completes; A becomes the sum mod 256 and all four flags are written, from the
operands before the instruction (H is bit 4 of x ^ y ^ u); its opcode decodes to it. Its frame: of the CPU only A, F and
the counters change; the bus's state, the parameters and every byte of memory do not. -/
def Obligations.AddComputesSum : Prop :=
  ∀ p ∈ addForms, ∀ s : State,
    decode [p.1] = .ok (p.2.1, []) ∧
    ∃ t, exec p.2.1 s = .next t ∧
      let x := s.cpu.a.toNat
      let y := (p.2.2 s.cpu).toNat
      t.cpu.a.toNat = (x + y) % 256 ∧
      t.cpu.f.getLsbD 7 = zeroBit s.cfg.zeroPolarity ((x + y) % 256) ∧
      t.cpu.f.getLsbD 6 = false ∧
      t.cpu.f.getLsbD 5 = (s.cpu.a ^^^ p.2.2 s.cpu ^^^ BitVec.ofNat 8 (x + y)).getLsbD 4 ∧
      t.cpu.f.getLsbD 4 = decide (x + y > 255) ∧
      t.cpu.f &&& 0x0F = 0 ∧
      t.cpu = { s.cpu with a := t.cpu.a, f := t.cpu.f, clkM := t.cpu.clkM, clkT := t.cpu.clkT } ∧
      t.bus = s.bus ∧ t.cfg = s.cfg ∧ (∀ addr, read8 t addr = read8 s addr) ∧
      Completed s.cfg.cycAdd s s.lcd t

/-- 40_alu.md R95 to R102: each CP r completes and writes all four flags of A - r (H is bit 4 of x ^ y ^ u, u in two's
complement); its opcode decodes to it. Its frame ("Registers written: F only"): A keeps its value too, and nothing of the
bus, the parameters or memory changes. -/
def Obligations.CpSetsFlags : Prop :=
  ∀ p ∈ cpForms, ∀ s : State,
    decode [p.1] = .ok (p.2.1, []) ∧
    ∃ t, exec p.2.1 s = .next t ∧
      let x := s.cpu.a.toNat
      let y := (p.2.2 s.cpu).toNat
      t.cpu.f.getLsbD 7 = zeroBit s.cfg.zeroPolarity ((x + 256 - y) % 256) ∧
      t.cpu.f.getLsbD 6 = true ∧
      t.cpu.f.getLsbD 5 = (s.cpu.a ^^^ p.2.2 s.cpu ^^^ BitVec.ofInt 8 ((x : Int) - y)).getLsbD 4 ∧
      t.cpu.f.getLsbD 4 = decide (x < y) ∧
      t.cpu.f &&& 0x0F = 0 ∧
      t.cpu = { s.cpu with f := t.cpu.f, clkM := t.cpu.clkM, clkT := t.cpu.clkT } ∧
      t.bus = s.bus ∧ t.cfg = s.cfg ∧ (∀ addr, read8 t addr = read8 s addr) ∧
      Completed s.cfg.cycCp s s.lcd t

/-- 40_alu.md R95, corner case (and R102): CP A gives F = 0xC0 for every A, or 0x40 under SET_WHEN_NONZERO. -/
def Obligations.CpWithItself : Prop :=
  ∀ s : State, ∃ t, exec .cpA s = .next t ∧
    t.cpu.f = if s.cfg.zeroPolarity = .setWhenZero then 0xC0 else 0x40

-- ---- no-operation ----

/-- 41_control.md R103: NOP writes no register, no flag and no memory; only the cost of one machine cycle and its four
ticks of display time remain; with the cycle's own advance, a step of it leaves pc one further. -/
def Obligations.NopOnlyCosts : Prop :=
  (∀ s : State, exec .nop s = .next { s with
    cpu := { s.cpu with clkM := s.cpu.clkM + 1, clkT := s.cpu.clkT + 4 }
    lcd := displayStep s.cfg.overshootMode 4 s.lcd }) ∧
  (∀ s : State, Running s → read8 (afterBootTest s) s.cpu.pc = 0x00 →
    step s = .next { afterBootTest s with
      cpu := { s.cpu with pc := s.cpu.pc + 1, clkM := s.cpu.clkM + 1, clkT := s.cpu.clkT + 4 }
      lcd := displayStep s.cfg.overshootMode 4 s.lcd })

-- ---- the stack ----

/-- 42_stack.md R105 to R109: each PUSH completes: it writes the high byte at sp - 1, then the low byte at sp - 2, and sp
becomes sp - 2; of the CPU nothing else changes but the counters; its opcode decodes to it. -/
def Obligations.PushWritesPair : Prop :=
  ∀ p ∈ pushForms, ∀ s : State,
    decode [p.1] = .ok (p.2.1, []) ∧
    ∃ t, exec p.2.1 s = .next t ∧
      let w := write8 (write8 s (s.cpu.sp - 1) (p.2.2.1 s.cpu)) (s.cpu.sp - 2) (p.2.2.2 s.cpu)
      t.cpu = { s.cpu with sp := s.cpu.sp - 2, clkM := t.cpu.clkM, clkT := t.cpu.clkT } ∧
      t.bus = w.bus ∧ t.cfg = s.cfg ∧ Completed s.cfg.cycPush s w.lcd t

/-- 42_stack.md R105, what memory holds after a PUSH: a byte pushed into a writable region is there, one pushed anywhere
else is lost, and every address that shares no byte with a stored one reads as before. The premise is the invariant of
R40. -/
def Obligations.PushMemory : Prop :=
  ∀ p ∈ pushForms, ∀ s t : State, Inv s → exec p.2.1 s = .next t →
    (WritableAddr (s.cpu.sp - 1) → read8 t (s.cpu.sp - 1) = p.2.2.1 s.cpu) ∧
    (WritableAddr (s.cpu.sp - 2) → read8 t (s.cpu.sp - 2) = p.2.2.2 s.cpu) ∧
    (∀ addr : Word, (WritableAddr (s.cpu.sp - 1) → ¬SameByte addr (s.cpu.sp - 1)) →
      (WritableAddr (s.cpu.sp - 2) → ¬SameByte addr (s.cpu.sp - 2)) → read8 t addr = read8 s addr) ∧
    t.bus.inboot = s.bus.inboot ∧ t.bus.bootRom = s.bus.bootRom ∧ t.bus.cart = s.bus.cart ∧
    t.bus.cartLen = s.bus.cartLen

/-- 42_stack.md R110 to R114: each POP completes: the low register takes the byte at sp, F only its high nibble, the high
register the byte at sp + 1, and sp becomes sp + 2; its opcode decodes to it. -/
def Obligations.PopReadsPair : Prop :=
  ∀ p ∈ popForms, ∀ s : State,
    decode [p.1] = .ok (p.2.1, []) ∧
    ∃ t, exec p.2.1 s = .next t ∧
      p.2.2.1 t.cpu = read8 s (s.cpu.sp + 1) ∧
      p.2.2.2.1 t.cpu = read8 s s.cpu.sp &&& p.2.2.2.2 ∧
      t.cpu.sp = s.cpu.sp + 2 ∧
      Completed s.cfg.cycPop s s.lcd t

/-- The frame of POP (42_stack.md R110): of the CPU only the pair's two registers, sp and the counters change, so no POP
but POP AF writes a flag; no byte of memory changes. -/
def Obligations.PopFrame : Prop :=
  ∀ s t : State,
    (exec .popBC s = .next t → t.cpu = { s.cpu with
      b := t.cpu.b, c := t.cpu.c, sp := t.cpu.sp, clkM := t.cpu.clkM, clkT := t.cpu.clkT }) ∧
    (exec .popDE s = .next t → t.cpu = { s.cpu with
      d := t.cpu.d, e := t.cpu.e, sp := t.cpu.sp, clkM := t.cpu.clkM, clkT := t.cpu.clkT }) ∧
    (exec .popHL s = .next t → t.cpu = { s.cpu with
      h := t.cpu.h, l := t.cpu.l, sp := t.cpu.sp, clkM := t.cpu.clkM, clkT := t.cpu.clkT }) ∧
    (exec .popAF s = .next t → t.cpu = { s.cpu with
      a := t.cpu.a, f := t.cpu.f, sp := t.cpu.sp, clkM := t.cpu.clkM, clkT := t.cpu.clkT }) ∧
    (∀ p ∈ popForms, exec p.2.1 s = .next t →
      t.bus = s.bus ∧ t.cfg = s.cfg ∧ ∀ addr, read8 t addr = read8 s addr)

/-- 42_stack.md R110 (a condition the spec marks as derived) with 90_conflicts.md C12: a POP after a PUSH of the same pair
gives both registers and sp back, when both bytes were stored. The premise is the invariant of R40 (for AF: the low nibble
of F is 0). -/
def Obligations.PushThenPopRestores : Prop :=
  ∀ p ∈ stackPairs, ∀ s t u : State, Inv s → exec p.1 s = .next t → exec p.2.1 t = .next u →
    WritableAddr (s.cpu.sp - 1) → WritableAddr (s.cpu.sp - 2) →
    p.2.2.1 u.cpu = p.2.2.1 s.cpu ∧ p.2.2.2 u.cpu = p.2.2.2 s.cpu ∧ u.cpu.sp = s.cpu.sp ∧
    ∀ q ∈ stackPairs, q.2.2.1 u.cpu = q.2.2.1 s.cpu ∧ q.2.2.2 u.cpu = q.2.2.2 s.cpu

/-- 90_conflicts.md C12: the stack-pointer part of the round trip holds always; at sp = 0x0000 the high byte is lost to
0xFFFF and comes back as 0x00, while the low byte comes back. -/
def Obligations.PushThenPopAtZero : Prop :=
  ∀ p ∈ stackPairs, ∀ s t u : State, exec p.1 s = .next t → exec p.2.1 t = .next u →
    u.cpu.sp = s.cpu.sp ∧
    (Inv s → s.cpu.sp = 0x0000 → p.2.2.1 u.cpu = 0x00 ∧ p.2.2.2 u.cpu = p.2.2.2 s.cpu)

-- ---- the load ----

/-- 43_load.md R115, the handler: LD A,(nn) completes for every nn: A takes the byte at nn, pc passes the two operand
bytes, no flag, no other register and no memory changes. -/
def Obligations.LoadAbsolute : Prop :=
  ∀ (nn : Word) (s : State), ∃ t, exec (.ldAnn nn) s = .next t ∧
    t.cpu = { s.cpu with
      a := read8 s nn, pc := s.cpu.pc + 2, clkM := t.cpu.clkM, clkT := t.cpu.clkT } ∧
    t.bus = s.bus ∧ t.cfg = s.cfg ∧ (∀ addr, read8 t addr = read8 s addr) ∧
    Completed s.cfg.cycLdamm s s.lcd t

/-- 43_load.md R115, the whole step: with opcode 0xFA at pc, nn is read little-endian at pc + 1 and pc + 2 (mod 2^16), A
takes the byte at nn, pc advances by 3, the cost is CYC_LDAMM, and nothing else changes. -/
def Obligations.LoadAbsoluteStep : Prop :=
  ∀ s : State, Running s → read8 (afterBootTest s) s.cpu.pc = 0xFA →
    ∃ (nn : Word) (t : State),
      nn.toNat = (read8 (afterBootTest s) (s.cpu.pc + 1)).toNat
        + 256 * (read8 (afterBootTest s) (s.cpu.pc + 2)).toNat ∧
      step s = .next t ∧
      t.cpu = { s.cpu with
        a := read8 (afterBootTest s) nn, pc := s.cpu.pc + 3
        clkM := s.cpu.clkM + s.cfg.cycLdamm, clkT := s.cpu.clkT + 4 * s.cfg.cycLdamm } ∧
      t.bus = (afterBootTest s).bus ∧ t.cfg = s.cfg ∧
      t.lcd = displayStep s.cfg.overshootMode (4 * s.cfg.cycLdamm) s.lcd

-- ---- the bus ----

/-- The read column of the table of 20_memory.md R46 (with R47 to R56): what every one of the 65,536 addresses reads. -/
def Obligations.ReadByRegion : Prop :=
  ∀ (s : State) (addr : Word),
    let a := addr.toNat
    read8 s addr =
      if a ≤ 0x00FF ∧ s.bus.inboot = true then Memory.read s.bus.bootRom a
      else if a ≤ 0x7FFF then (if a < s.bus.cartLen then Memory.read s.bus.cart a else 0x00)
      else if a ≤ 0x9FFF then Memory.read s.lcd.vram (addr &&& 0x1FFF).toNat
      else if a ≤ 0xBFFF then Memory.read s.bus.eram (addr &&& 0x1FFF).toNat
      else if a ≤ 0xFDFF then Memory.read s.bus.wram (addr &&& 0x1FFF).toNat
      else if a ≤ 0xFE9F then Memory.read s.lcd.oam (addr &&& 0x00FF).toNat
      else if 0xFF80 ≤ a ∧ a ≤ 0xFFFE then Memory.read s.bus.zram (a - 0xFF80)
      else 0x00

/-- 20_memory.md R53, R54 and R56: the unmapped and the reserved addresses read 0x00, and a write to one changes nothing.
-/
def Obligations.UnmappedReadsZero : Prop :=
  ∀ (s : State) (addr : Word) (v : Byte),
    (0xFEA0 ≤ addr.toNat ∧ addr.toNat ≤ 0xFEFF) ∨ (0xFF00 ≤ addr.toNat ∧ addr.toNat ≤ 0xFF7F) ∨ addr = 0xFFFF →
    read8 s addr = 0x00 ∧ write8 s addr v = s

/-- 20_memory.md R50, R52 and R55: external RAM, OAM and zero-page RAM: what a read returns and what a write stores, in
every display mode, with nothing else changed. -/
def Obligations.PlainRamRegions : Prop :=
  ∀ (s : State) (addr : Word) (v : Byte),
    (0xA000 ≤ addr.toNat → addr.toNat ≤ 0xBFFF →
      read8 s addr = Memory.read s.bus.eram (addr &&& 0x1FFF).toNat ∧
      write8 s addr v = { s with bus := { s.bus with eram := Memory.write s.bus.eram (addr &&& 0x1FFF).toNat v } }) ∧
    (0xFE00 ≤ addr.toNat → addr.toNat ≤ 0xFE9F →
      read8 s addr = Memory.read s.lcd.oam (addr &&& 0x00FF).toNat ∧
      write8 s addr v = { s with lcd := { s.lcd with oam := Memory.write s.lcd.oam (addr &&& 0x00FF).toNat v } }) ∧
    (0xFF80 ≤ addr.toNat → addr.toNat ≤ 0xFFFE →
      read8 s addr = Memory.read s.bus.zram (addr.toNat - 0xFF80) ∧
      write8 s addr v = { s with bus := { s.bus with zram := Memory.write s.bus.zram (addr.toNat - 0xFF80) v } })

/-- 20_memory.md R47, R48, R53, R54 and R56: a write to a ROM, unmapped or reserved address changes nothing at all. -/
def Obligations.DroppedWrites : Prop :=
  ∀ (s : State) (addr : Word) (v : Byte), ¬WritableAddr addr → write8 s addr v = s

/-- 20_memory.md R43, R49 to R52, R55 and R64: after a write to a writable address, every address that selects that byte
reads the value, and every other address reads as before. The premise is the invariant of R40. -/
def Obligations.WriteThenRead : Prop :=
  ∀ (s : State) (a b : Word) (v : Byte), Inv s → WritableAddr a →
    (SameByte a b → read8 (write8 s a v) b = v) ∧ (¬SameByte a b → read8 (write8 s a v) b = read8 s b)

/-- 20_memory.md R51: an address in 0xC000..0xDDFF and the address 0x2000 above it select the same byte, for reads and for
writes; the mirror ends at 0xFDFF, so a write at 0xDE00..0xDFFF is not seen 0x2000 above. -/
def Obligations.WorkingRamMirror : Prop :=
  (∀ (s : State) (a : Word) (v : Byte), 0xC000 ≤ a.toNat → a.toNat ≤ 0xDDFF →
    read8 s (a + 0x2000) = read8 s a ∧ write8 s (a + 0x2000) v = write8 s a v) ∧
  (∀ (s : State) (a : Word) (v : Byte), 0xDE00 ≤ a.toNat → a.toNat ≤ 0xDFFF →
    read8 (write8 s a v) (a + 0x2000) = read8 s (a + 0x2000))

/-- 20_memory.md R44: read16 is little-endian; at 0xFFFF the high byte comes from 0x0000. -/
def Obligations.Read16LittleEndian : Prop :=
  ∀ (s : State) (addr : Word),
    (read16 s addr).toNat = (read8 s addr).toNat + 256 * (read8 s (BitVec.ofNat 16 (addr.toNat + 1))).toNat

/-- 20_memory.md R45: write16 writes the low byte at addr and then the high byte at addr + 1, mod 2^16. -/
def Obligations.Write16LowByteFirst : Prop :=
  ∀ (s : State) (addr v : Word),
    write16 s addr v = write8 (write8 s addr (BitVec.ofNat 8 v.toNat)) (BitVec.ofNat 16 (addr.toNat + 1))
      (BitVec.ofNat 8 (v.toNat / 256))

/-- 20_memory.md R59, R63 and 10_state.md R30: no step changes the bootstrap ROM, the cartridge image, its length, or a
parameter. -/
def Obligations.RomNeverChanges : Prop :=
  ∀ s t : State, step s = .next t →
    t.bus.bootRom = s.bus.bootRom ∧ t.bus.cart = s.bus.cart ∧ t.bus.cartLen = s.bus.cartLen ∧ t.cfg = s.cfg

-- ---- the display ----

/-- 50_display.md R126: column col of a tile row takes bit 7 - col of each plane. -/
def Obligations.TileRowDecode : Prop :=
  ∀ (lo hi : Byte) (col : Fin 8),
    ((decodeRow lo hi)[col]).toNat = (lo.getLsbD (7 - col.val)).toNat + 2 * (hi.getLsbD (7 - col.val)).toNat

/-- 50_display.md R127 with 20_memory.md R49: a write at a video-memory address stores the byte and rewrites exactly the 8
entries of the tile row whose byte pair it belongs to, from both bytes of the pair; in the tile-map area no entry changes;
of the display nothing else changes. -/
def Obligations.VramWriteRefreshesRow : Prop :=
  ∀ (s : State) (addr : Word) (v : Byte) (tile : Fin 384) (row : Fin 8),
    0x8000 ≤ addr.toNat → addr.toNat ≤ 0x9FFF →
    let off := addr.toNat - 0x8000
    let d := (write8 s addr v).lcd
    d.vram = Memory.write s.lcd.vram off v ∧
    d.tc[tile][row] =
      (if off < 0x1800 ∧ off / 16 = tile.val ∧ off / 2 % 8 = row.val then
        decodeRow (Memory.read d.vram (16 * tile.val + 2 * row.val)) (Memory.read d.vram (16 * tile.val + 2 * row.val + 1))
      else s.lcd.tc[tile][row]) ∧
    d = { s.lcd with vram := d.vram, tc := d.tc }

/-- 50_display.md R130 to R132: the loop of renderScan draws the picture of the closed form (which the spec marks as
derived) in every column of the current line, and changes no other row and nothing else of the display. -/
def Obligations.RenderScanClosedForm : Prop :=
  ∀ (d : Display) (y x : Nat) (hy : y < 144) (hx : x < 160), d.line < 144 →
    (((renderScan d).fb[y])[x]) = (if y = d.line then backgroundPixel d d.line x else (d.fb[y])[x]) ∧
    renderScan d = { d with fb := (renderScan d).fb }

/-- 50_display.md R117: display_step under CARRY adds the ticks and, while the mode clock has reached the mode's
threshold, consumes the threshold and takes the transition. -/
def Obligations.CarryConsumesThreshold : Prop :=
  ∀ (ticks : Nat) (d : Display),
    displayStep .carry ticks d =
      if d.modeclock + ticks < threshold d.mode then { d with modeclock := d.modeclock + ticks }
      else displayStep .carry 0 (transition { d with modeclock := d.modeclock + ticks - threshold d.mode })

/-- 50_display.md R117: under CARRY "the state after any sequence of steps depends only on the total of their ticks": two
sequences of tick values with the same total leave the same display. -/
def Obligations.OnlyTotalTicksMatter : Prop :=
  ∀ (d : Display) (xs ys : List Nat), xs ≠ [] → ys ≠ [] → xs.sum = ys.sum →
    xs.foldl (fun d n => displayStep .carry n d) d = ys.foldl (fun d n => displayStep .carry n d) d

/-- 50_display.md R118: under DISCARD at most one transition is taken, and the overshoot is dropped. -/
def Obligations.DiscardDropsOvershoot : Prop :=
  ∀ (ticks : Nat) (d : Display),
    (d.modeclock + ticks < threshold d.mode → displayStep .discard ticks d = { d with modeclock := d.modeclock + ticks }) ∧
    (threshold d.mode ≤ d.modeclock + ticks → displayStep .discard ticks d = transition { d with modeclock := 0 })

/-- 50_display.md R116, R119 to R122 and R125: the thresholds (a visible line takes as long as a VBlank line), and the
four transitions. That present appends the framebuffer to the record of presented frames is the model's choice (log 10):
R125 asks a model for such a record. -/
def Obligations.ModeTransitions : Prop :=
  (threshold .oamScan = 80 ∧ threshold .vramScan = 172 ∧ threshold .hblank = 204 ∧ threshold .vblank = 456 ∧
    threshold .oamScan + threshold .vramScan + threshold .hblank = threshold .vblank) ∧
  ∀ d : Display,
    (d.mode = .oamScan → transition d = { d with mode := .vramScan }) ∧
    (d.mode = .vramScan → transition d = { renderScan d with mode := .hblank }) ∧
    (d.mode = .hblank → d.line + 1 = 143 →
      transition d = { d with line := 143, mode := .vblank, presents := d.presents ++ [d.fb] }) ∧
    (d.mode = .hblank → d.line + 1 ≠ 143 → transition d = { d with line := d.line + 1, mode := .oamScan }) ∧
    (d.mode = .vblank → 153 < d.line + 1 → transition d = { d with line := 0, mode := .oamScan }) ∧
    (d.mode = .vblank → d.line + 1 ≤ 153 → transition d = { d with line := d.line + 1 })

/-- 50_display.md R123 and R124 (which the spec marks as derived): the display's line, mode and mode clock after any
number of ticks from line 0, mode 2, modeclock 0, in any split into steps, are those of the 154-line, 70,224-tick frame.
-/
def Obligations.FrameTiming : Prop :=
  ∀ (d : Display) (ticks : List Nat), d.mode = .oamScan → d.line = 0 → d.modeclock = 0 →
    let e := ticks.foldl (fun d n => displayStep .carry n d) d
    (e.line, e.mode, e.modeclock) = timingAfter ticks.sum

/-- 50_display.md R124 and R125: one frame is presented per 70,224 ticks, the first after 65,208, in any split into steps,
and frames are only ever appended to the record (the model's own field, log 10). -/
def Obligations.OnePresentPerFrame : Prop :=
  ∀ (d : Display) (ticks : List Nat), d.mode = .oamScan → d.line = 0 → d.modeclock = 0 →
    let e := ticks.foldl (fun d n => displayStep .carry n d) d
    ∃ frames, e.presents = d.presents ++ frames ∧ frames.length = (ticks.sum + (70224 - 65208)) / 70224

/-- 50_display.md R125: a step only ever appends frames to the record of what the host was handed (log 10), and a step
that takes the fatal stop presents nothing (60_exceptions.md R142). -/
def Obligations.PresentsOnlyAppended : Prop :=
  ∀ s t : State, step s = .next t →
    (∃ frames, t.lcd.presents = s.lcd.presents ++ frames) ∧ (t.cpu.stopped = true → t.lcd = s.lcd)

/-- 50_display.md R123 and 90_conflicts.md C4: row 143 of the framebuffer is never rasterized. The premise is the
invariant of R40. -/
def Obligations.LastRowNeverDrawn : Prop :=
  ∀ s t : State, Inv s → step s = .next t → t.lcd.fb[143] = s.lcd.fb[143]

/-- 50_display.md R134 and 10_state.md R39: no display timing, configuration, tile-cache, framebuffer or output state can
reach the program: two states that agree on the CPU, the bus, the parameters, VRAM and OAM agree on all of them after a
step. -/
def Obligations.DisplayHiddenFromProgram : Prop :=
  ∀ s s' t t' : State, s.cpu = s'.cpu → s.bus = s'.bus → s.cfg = s'.cfg →
    s.lcd.vram = s'.lcd.vram → s.lcd.oam = s'.lcd.oam → step s = .next t → step s' = .next t' →
    t.cpu = t'.cpu ∧ t.bus = t'.bus ∧ t.cfg = t'.cfg ∧ t.lcd.vram = t'.lcd.vram ∧ t.lcd.oam = t'.lcd.oam

/-- 50_display.md R134: after reset no step changes the scroll, selection or palette registers. -/
def Obligations.DisplayConfigurationFixed : Prop :=
  ∀ s t : State, step s = .next t →
    t.lcd.scx = s.lcd.scx ∧ t.lcd.scy = s.lcd.scy ∧ t.lcd.bgmapSel = s.lcd.bgmapSel ∧
    t.lcd.tilesetSel = s.lcd.tilesetSel ∧ t.lcd.palette = s.lcd.palette

-- ---- invariants ----

/-- 10_state.md R40 (which the spec marks as derived): every step keeps the invariant, from every state that meets it;
with it, the canonical form of the model's byte stores. -/
def Obligations.InvariantKept : Prop :=
  ∀ s t : State, Inv s → step s = .next t → Inv t

/-- 10_state.md R40: the power-on state meets the invariant. -/
def Obligations.InvariantAtReset : Prop := Inv State.reset

/-- 10_state.md R40 and 70_reset_and_hazards.md R150: reset, from any state whose ROM images are in canonical form,
establishes the invariant. -/
def Obligations.InvariantAfterHostReset : Prop :=
  ∀ s : State, Memory.wf 0x100 s.bus.bootRom = true → Memory.wf s.bus.cartLen s.bus.cart = true → Inv (hostReset s)

/-- 10_state.md R20: F is only ever written masked: whatever F was, after a step it is what it was or its low nibble is 0.
-/
def Obligations.FlagWritesAreMasked : Prop :=
  ∀ s t : State, step s = .next t → t.cpu.f = s.cpu.f ∨ t.cpu.f &&& 0x0F = 0

/-- 10_state.md R25: only the sequential advance changes pc: a step adds 1 to it, or 3 when the opcode is 0xFA, mod 2^16.
-/
def Obligations.PcOnlyAdvances : Prop :=
  ∀ s t : State, step s = .next t →
    t.cpu.pc = if read8 (afterBootTest s) s.cpu.pc = 0xFA then s.cpu.pc + 3 else s.cpu.pc + 1

/-- 10_state.md R26: sp has no other writer than PUSH, which takes 2 from it, and POP, which adds 2, mod 2^16. -/
def Obligations.OnlyStackMovesSp : Prop :=
  ∀ s t : State, step s = .next t →
    let op := read8 (afterBootTest s) s.cpu.pc
    t.cpu.sp = if op ∈ pushForms.map (·.1) then s.cpu.sp - 2
      else if op ∈ popForms.map (·.1) then s.cpu.sp + 2 else s.cpu.sp

/-- 43_load.md, opening: the only writes a program can make are the byte writes of PUSH: a step of any other opcode leaves
every byte of RAM, video memory and OAM alone. -/
def Obligations.OnlyPushWritesMemory : Prop :=
  ∀ s t : State, step s = .next t → read8 (afterBootTest s) s.cpu.pc ∉ pushForms.map (·.1) →
    t.bus = (afterBootTest s).bus ∧ t.lcd.vram = s.lcd.vram ∧ t.lcd.oam = s.lcd.oam ∧ t.lcd.tc = s.lcd.tc

-- ---- reset and the host ----

/-- 70_reset_and_hazards.md R150: reset sets every element of state to its reset value and leaves the bootstrap ROM, the
cartridge image, its length and the parameters; and it is the power-on state. R150 says that reset raises no present. That
it keeps the record of the frames presented before it is the model's choice (log 10). -/
def Obligations.ResetEstablishesValues : Prop :=
  ∀ s : State,
    (hostReset s).cpu =
      { a := 0, b := 0, c := 0, d := 0, e := 0, h := 0, l := 0, f := 0, pc := 0, sp := 0, clkM := 0, clkT := 0
        stopped := false, faultOpcode := 0, faultPc := 0 } ∧
    (hostReset s).bus = { s.bus with inboot := s.cfg.bootAtReset, wram := [], eram := [], zram := [] } ∧
    (∀ addr : Word, WritableAddr addr → read8 (hostReset s) addr = 0x00) ∧
    (hostReset s).lcd.mode = .oamScan ∧ (hostReset s).lcd.modeclock = 0 ∧ (hostReset s).lcd.line = 0 ∧
    (hostReset s).lcd.scx = s.cfg.resetScx ∧ (hostReset s).lcd.scy = s.cfg.resetScy ∧
    (hostReset s).lcd.bgmapSel = s.cfg.resetBgmapSel ∧ (hostReset s).lcd.tilesetSel = s.cfg.resetTilesetSel ∧
    (hostReset s).lcd.palette = s.cfg.palette ∧
    (∀ (tile : Fin 384) (row col : Fin 8), (((hostReset s).lcd.tc[tile])[row])[col] = 0) ∧
    (∀ (y : Fin 144) (x : Fin 160), ((hostReset s).lcd.fb[y])[x] = s.cfg.fbResetPixel) ∧
    (hostReset s).cfg = s.cfg ∧ (hostReset s).lcd.presents = s.lcd.presents ∧ State.reset = hostReset State.reset

/-- The power-on state is a reset state at the default parameters of 00_scope.md R12; its empty ROM images and output
record are the model's choice (log 2, 3, 10). -/
def Obligations.PowerOnState : Prop :=
  hostReset State.reset = State.reset ∧ State.reset.cfg = Config.defaults ∧
  Config.defaults = { bootAtReset := true, zeroPolarity := .setWhenZero, overshootMode := .carry
                      cycAdd := 1, cycCp := 1, cycPush := 4, cycPop := 3, cycLdamm := 4
                      palette := #v[⟨255, 255, 255, 255⟩, ⟨192, 192, 192, 255⟩, ⟨96, 96, 96, 255⟩, ⟨0, 0, 0, 255⟩]
                      resetScx := 0, resetScy := 0, resetBgmapSel := false, resetTilesetSel := false
                      fbResetPixel := ⟨255, 255, 255, 255⟩ }

/-- 70_reset_and_hazards.md R151: after reset the first fetch is at 0x0000, from the bootstrap ROM when BOOT_AT_RESET = 1
and from the cartridge when it is 0. -/
def Obligations.FirstFetchAfterReset : Prop :=
  ∀ s : State, (hostReset s).cpu.pc = 0x0000 ∧ Running (hostReset s) ∧
    (s.cfg.bootAtReset = true → read8 (hostReset s) 0x0000 = Memory.read s.bus.bootRom 0) ∧
    (s.cfg.bootAtReset = false → read8 (hostReset s) 0x0000 = if 0 < s.bus.cartLen then Memory.read s.bus.cart 0 else 0x00)

/-- 20_memory.md R58 and R48: between a reset and the first step, a cartridge of any length is stored verbatim in place of
any earlier one; addresses 0x0100..0x7FFF then read its bytes, and 0x00 past its end; nothing but the image changes. -/
def Obligations.CartridgeLoadVerbatim : Prop :=
  ∀ (s : State) (bytes : List Byte), ∃ t, loadCartridge bytes (hostReset s) = .next t ∧
    t.bus.cartLen = bytes.length ∧
    (∀ i : Nat, Memory.read t.bus.cart i = bytes.getD i 0x00) ∧
    (∀ addr : Word, 0x0100 ≤ addr.toNat → addr.toNat ≤ 0x7FFF → read8 t addr = bytes.getD addr.toNat 0x00) ∧
    t = { hostReset s with bus := { (hostReset s).bus with cart := t.bus.cart, cartLen := t.bus.cartLen } }

/-- 70_reset_and_hazards.md R154: once a step has been taken the host can no longer load a cartridge (log 11). The premise
is that the costs are at least 1, as the table of open parameters in 92 has them. -/
def Obligations.NoCartridgeLoadDuringRun : Prop :=
  ∀ (s t : State) (bytes : List Byte), s.cfg.wellFormed = true → step s = .next t →
    loadCartridge bytes t = .refused .loadDuringRun
end

