-- ==== Sys2Proof/Laws/Memory.lean ====
section
/-! SUPPORT. What reading and writing one byte store can do, and that every operation keeps the canonical form. -/

namespace Sys2Proof.Machine

@[simp] theorem Memory.read_nil (k : Nat) : Memory.read [] k = 0 := rfl

/-- An offset below every listed one reads 0. -/
theorem Memory.read_of_lt {m : Memory} {k : Nat} (h : ∀ cell ∈ m, k < cell.1) : Memory.read m k = 0 := by
  induction m with
  | nil => rfl
  | cons cell rest ih =>
    have hk : k ≠ cell.1 := (h cell (by simp)).ne
    simp only [Memory.read, if_neg hk]
    exact ih fun c hc => h c (by simp [hc])

theorem Memory.wf_cons {size k : Nat} {v : Byte} {rest : Memory} :
    Memory.wf size ((k, v) :: rest) = true ↔
      k < size ∧ v ≠ 0#8 ∧ (∀ cell ∈ rest, k < cell.1) ∧ Memory.wf size rest = true := by
  simp [Memory.wf, and_assoc]

/-- Reading back the byte just written, in a store of canonical form. -/
theorem Memory.read_write_same {size : Nat} {m : Memory} (hm : Memory.wf size m = true) (k : Nat) (v : Byte) :
    Memory.read (Memory.write m k v) k = v := by
  induction m with
  | nil => by_cases hv : v = 0#8 <;> simp [Memory.write, Memory.read, hv]
  | cons cell rest ih =>
    obtain ⟨k', v'⟩ := cell
    obtain ⟨-, -, hlt, hrest⟩ := Memory.wf_cons.1 hm
    rcases lt_trichotomy k k' with h | rfl | h
    · by_cases hv : v = 0#8
      · subst hv
        have hr : Memory.read rest k = 0 := Memory.read_of_lt fun c hc => h.trans (hlt c hc)
        simp [Memory.write, Memory.read, h, h.ne, hr]
      · simp [Memory.write, Memory.read, h, hv]
    · by_cases hv : v = 0#8
      · subst hv
        simp [Memory.write, Memory.read_of_lt hlt]
      · simp [Memory.write, Memory.read, hv]
    · simp [Memory.write, Memory.read, h.not_gt, h.ne', ih hrest]

/-- A write leaves every other offset alone. -/
theorem Memory.read_write_other {m : Memory} {k j : Nat} (h : j ≠ k) (v : Byte) :
    Memory.read (Memory.write m k v) j = Memory.read m j := by
  induction m with
  | nil => by_cases hv : v = 0#8 <;> simp [Memory.write, Memory.read, hv, h]
  | cons cell rest ih =>
    obtain ⟨k', v'⟩ := cell
    simp only [Memory.write]
    split
    · split <;> simp [Memory.read, h]
    · split
      · rename_i hk
        subst hk
        split <;> simp [Memory.read, h]
      · simp [Memory.read, ih]

/-- A read after a write, in one equation. -/
theorem Memory.read_write {size : Nat} {m : Memory} (hm : Memory.wf size m = true) (k j : Nat) (v : Byte) :
    Memory.read (Memory.write m k v) j = if j = k then v else Memory.read m j := by
  split
  · subst_vars; exact Memory.read_write_same hm _ v
  · exact Memory.read_write_other ‹_› v

theorem Memory.lt_write {m : Memory} {j k : Nat} {v : Byte} (hj : j < k) (hm : ∀ cell ∈ m, j < cell.1) :
    ∀ cell ∈ Memory.write m k v, j < cell.1 := by
  induction m with
  | nil => by_cases hv : v = 0#8 <;> simp [Memory.write, hv, hj]
  | cons cell rest ih =>
    obtain ⟨k', v'⟩ := cell
    have h0 : j < k' := hm (k', v') (by simp)
    have hrest : ∀ cell ∈ rest, j < cell.1 := fun c hc => hm c (by simp [hc])
    simp only [Memory.write]
    split
    · split
      · exact hm
      · exact List.forall_mem_cons.2 ⟨hj, hm⟩
    · split
      · split
        · exact hrest
        · exact List.forall_mem_cons.2 ⟨hj, hrest⟩
      · intro c hc
        rcases List.mem_cons.1 hc with rfl | hc
        · exact h0
        · exact ih hrest c hc

/-- A write inside the store keeps the canonical form. -/
theorem Memory.wf_write {size : Nat} {m : Memory} (hm : Memory.wf size m = true) {k : Nat} (hk : k < size) (v : Byte) :
    Memory.wf size (Memory.write m k v) = true := by
  induction m with
  | nil => by_cases hv : v = 0#8 <;> simp [Memory.write, Memory.wf, hv, hk]
  | cons cell rest ih =>
    obtain ⟨k', v'⟩ := cell
    have hw := Memory.wf_cons.1 hm
    obtain ⟨hk', hv', hlt, hrest⟩ := hw
    simp only [Memory.write]
    split
    · rename_i hlt'
      split
      · exact hm
      · refine Memory.wf_cons.2 ⟨hk, ‹_›, ?_, hm⟩
        intro c hc
        rcases List.mem_cons.1 hc with rfl | hc
        · exact hlt'
        · exact hlt'.trans (hlt c hc)
    · split
      · split
        · exact hrest
        · rename_i h _
          subst h
          exact Memory.wf_cons.2 ⟨hk, ‹_›, hlt, hrest⟩
      · refine Memory.wf_cons.2 ⟨hk', hv', Memory.lt_write (by omega) hlt, ih hrest⟩

/-- Writing the byte a store already holds changes nothing: equal memories are equal data. -/
theorem Memory.write_read_self {size : Nat} {m : Memory} (hm : Memory.wf size m = true) (k : Nat) :
    Memory.write m k (Memory.read m k) = m := by
  induction m with
  | nil => rfl
  | cons cell rest ih =>
    obtain ⟨k', v'⟩ := cell
    obtain ⟨-, hv', hlt, hrest⟩ := Memory.wf_cons.1 hm
    rcases lt_trichotomy k k' with h | rfl | h
    · have hr : Memory.read rest k = 0 := Memory.read_of_lt fun c hc => h.trans (hlt c hc)
      simp [Memory.write, Memory.read, h, h.ne, hr]
    · simp only [Memory.read, if_true]
      simp [Memory.write, hv']
    · simp [Memory.write, Memory.read, h.not_gt, h.ne', ih hrest]

theorem Memory.le_ofBytes (k : Nat) (bytes : List Byte) : ∀ cell ∈ Memory.ofBytes k bytes, k ≤ cell.1 := by
  induction bytes generalizing k with
  | nil => simp [Memory.ofBytes]
  | cons v rest ih =>
    intro c hc
    simp only [Memory.ofBytes] at hc
    split at hc
    · exact (Nat.le_succ k).trans (ih _ c hc)
    · rcases List.mem_cons.1 hc with rfl | hc
      · exact le_rfl
      · exact (Nat.le_succ k).trans (ih _ c hc)

theorem Memory.read_ofBytes_lt (k j : Nat) (bytes : List Byte) (h : j < k) :
    Memory.read (Memory.ofBytes k bytes) j = 0 :=
  Memory.read_of_lt fun c hc => h.trans_le (Memory.le_ofBytes k bytes c hc)

/-- A loaded image reads back byte for byte, and 0x00 past its end (20_memory.md R48, R58). -/
theorem Memory.read_ofBytes (k i : Nat) (bytes : List Byte) :
    Memory.read (Memory.ofBytes k bytes) (k + i) = bytes.getD i 0 := by
  induction bytes generalizing k i with
  | nil => rfl
  | cons v rest ih =>
    cases i with
    | zero =>
      by_cases hv : v = 0#8
      · simp [Memory.ofBytes, hv, Memory.read_ofBytes_lt]
      · simp [Memory.ofBytes, hv, Memory.read]
    | succ i =>
      have hih := ih (k + 1) i
      rw [show k + 1 + i = k + (i + 1) by omega] at hih
      by_cases hv : v = 0#8 <;> simp [Memory.ofBytes, hv, Memory.read, hih]

/-- A loaded image is in canonical form. -/
theorem Memory.wf_ofBytes (k : Nat) (bytes : List Byte) :
    Memory.wf (k + bytes.length) (Memory.ofBytes k bytes) = true := by
  induction bytes generalizing k with
  | nil => rfl
  | cons v rest ih =>
    have hih := ih (k + 1)
    rw [show k + 1 + rest.length = k + (v :: rest).length by simp; omega] at hih
    by_cases hv : v = 0#8
    · simpa [Memory.ofBytes, hv] using hih
    · rw [Memory.ofBytes, if_neg (show ¬v = 0x00 from hv)]
      exact Memory.wf_cons.2 ⟨by simp, hv, fun c hc => Memory.le_ofBytes (k + 1) rest c hc, hih⟩

/-- The form for a store is the form for a larger one. -/
theorem Memory.wf_mono {size size' : Nat} (h : size ≤ size') {m : Memory} (hm : Memory.wf size m = true) :
    Memory.wf size' m = true := by
  induction m with
  | nil => rfl
  | cons cell rest ih =>
    obtain ⟨k, v⟩ := cell
    obtain ⟨hk, hv, hlt, hrest⟩ := Memory.wf_cons.1 hm
    exact Memory.wf_cons.2 ⟨hk.trans_le h, hv, hlt, ih hrest⟩

end Sys2Proof.Machine
end

