-- ==== Sys2Proof/Laws/Display.lean ====
section
/-! SUPPORT. What the operations of the DisplayController can do: the frame of each, the shape of the tile refresh, and the
loop of R117 as an equation without fuel. -/

namespace Sys2Proof.Machine

/-- What the timing and the rasterizer never change: the two stores, the configuration registers, the tile cache. -/
structure SameStores (d e : Display) : Prop where
  vram : e.vram = d.vram
  oam : e.oam = d.oam
  scx : e.scx = d.scx
  scy : e.scy = d.scy
  bgmapSel : e.bgmapSel = d.bgmapSel
  tilesetSel : e.tilesetSel = d.tilesetSel
  palette : e.palette = d.palette
  tc : e.tc = d.tc

theorem SameStores.refl (d : Display) : SameStores d d := ⟨rfl, rfl, rfl, rfl, rfl, rfl, rfl, rfl⟩

theorem SameStores.trans {d e f : Display} (h : SameStores d e) (k : SameStores e f) : SameStores d f :=
  ⟨k.1.trans h.1, k.2.trans h.2, k.3.trans h.3, k.4.trans h.4, k.5.trans h.5, k.6.trans h.6, k.7.trans h.7,
    k.8.trans h.8⟩

/-- The tile a raw map byte selects, as a number (50_display.md R129). -/
theorem tileIndex_val (sel : Bool) (raw : Byte) :
    (tileIndex sel raw).val = if sel = true ∧ raw.toNat < 128 then raw.toNat + 256 else raw.toNat := by
  unfold tileIndex; split <;> simp_all

/-- The rasterizer writes the framebuffer only. -/
theorem renderScan_eq (d : Display) : renderScan d = { d with fb := (renderScan d).fb } := by
  unfold renderScan; split <;> rfl

/-- The rasterizer leaves every row but the current line's alone (50_display.md R132). -/
theorem renderScan_fb_other (d : Display) (y : Nat) (hy : y < 144) (h : y ≠ d.line) :
    (renderScan d).fb[y] = d.fb[y] := by
  unfold renderScan
  split
  · simp [Ne.symm h]
  · rfl

theorem renderScan_sameStores (d : Display) : SameStores d (renderScan d) := by
  rw [renderScan_eq]; exact ⟨rfl, rfl, rfl, rfl, rfl, rfl, rfl, rfl⟩

@[simp] theorem renderScan_mode (d : Display) : (renderScan d).mode = d.mode := by rw [renderScan_eq]
@[simp] theorem renderScan_line (d : Display) : (renderScan d).line = d.line := by rw [renderScan_eq]
@[simp] theorem renderScan_modeclock (d : Display) : (renderScan d).modeclock = d.modeclock := by rw [renderScan_eq]
@[simp] theorem renderScan_presents (d : Display) : (renderScan d).presents = d.presents := by rw [renderScan_eq]

theorem threshold_pos (m : Mode) : 80 ≤ threshold m := by cases m <;> decide

theorem transition_sameStores (d : Display) : SameStores d (transition d) := by
  unfold transition
  split
  · exact ⟨rfl, rfl, rfl, rfl, rfl, rfl, rfl, rfl⟩
  · obtain ⟨h1, h2, h3, h4, h5, h6, h7, h8⟩ := renderScan_sameStores d
    exact ⟨h1, h2, h3, h4, h5, h6, h7, h8⟩
  · unfold leaveHblank; split <;> exact ⟨rfl, rfl, rfl, rfl, rfl, rfl, rfl, rfl⟩
  · unfold leaveVblankLine; split <;> exact ⟨rfl, rfl, rfl, rfl, rfl, rfl, rfl, rfl⟩

/-- No transition touches the mode clock: the timing step alone does. -/
@[simp] theorem transition_modeclock (d : Display) : (transition d).modeclock = d.modeclock := by
  unfold transition
  split
  · rfl
  · simp [leaveVramScan]
  · unfold leaveHblank; split <;> rfl
  · unfold leaveVblankLine; split <;> rfl

/-- A transition does not look at the mode clock. -/
theorem renderPixels_modeclock (d : Display) (c : Nat) (mrow : BitVec 5) (ty : Fin 8) (n x : Nat) (tx : Fin 8)
    (col : BitVec 5) (t : Fin 384) (row : PixelRow) :
    renderPixels { d with modeclock := c } mrow ty n x tx col t row = renderPixels d mrow ty n x tx col t row := by
  induction n generalizing x tx col t row with
  | zero => rfl
  | succ n ih =>
    simp only [renderPixels]
    split <;> exact ih ..

theorem renderScan_modeclock_comm (d : Display) (c : Nat) :
    renderScan { d with modeclock := c } = { renderScan d with modeclock := c } := by
  unfold renderScan
  by_cases h : d.line < 144
  · simp [h, renderPixels_modeclock, mapTile, vramRead]
  · simp [h]

theorem transition_modeclock_comm (d : Display) (c : Nat) :
    transition { d with modeclock := c } = { transition d with modeclock := c } := by
  unfold transition
  dsimp only
  cases hm : d.mode with
  | oamScan => rfl
  | vramScan => simp only [leaveVramScan, ← hm, renderScan_modeclock_comm]
  | hblank => by_cases h : d.line + 1 = 143 <;> simp [leaveHblank, present, h]
  | vblank => by_cases h : d.line + 1 > 153 <;> simp [leaveVblankLine, h, hm]

/-- The record of presented frames only ever grows at its end. -/
theorem transition_presents (d : Display) : ∃ frames, (transition d).presents = d.presents ++ frames := by
  unfold transition
  split
  · exact ⟨[], by simp [leaveOamScan]⟩
  · exact ⟨[], by simp [leaveVramScan]⟩
  · unfold leaveHblank
    split
    · exact ⟨[d.fb], rfl⟩
    · exact ⟨[], by simp⟩
  · exact ⟨[], by unfold leaveVblankLine; split <;> simp⟩

/-- Enough fuel, and the mode clock ends below the threshold (50_display.md R117). -/
theorem carryLoop_modeclock_lt (fuel : Nat) (d : Display) (h : d.modeclock ≤ fuel) :
    (carryLoop fuel d).modeclock < threshold (carryLoop fuel d).mode := by
  induction fuel generalizing d with
  | zero => simp only [carryLoop]; have := threshold_pos d.mode; omega
  | succ fuel ih =>
    simp only [carryLoop]
    split
    · assumption
    · apply ih
      have := threshold_pos d.mode
      simp; omega

/-- Any two amounts of fuel that are enough give the same display. -/
theorem carryLoop_fuel (fuel fuel' : Nat) (d : Display) (h : d.modeclock ≤ fuel) (h' : d.modeclock ≤ fuel') :
    carryLoop fuel d = carryLoop fuel' d := by
  induction fuel generalizing d fuel' with
  | zero =>
    have := threshold_pos d.mode
    cases fuel' with
    | zero => rfl
    | succ fuel' => simp only [carryLoop]; rw [if_pos (by omega)]
  | succ fuel ih =>
    have hth := threshold_pos d.mode
    cases fuel' with
    | zero => simp only [carryLoop]; rw [if_pos (by omega)]
    | succ fuel' =>
      simp only [carryLoop]
      split
      · rfl
      · exact ih _ _ (by simp; omega) (by simp; omega)

/-- An invariant of the transitions, whatever the mode clock, is one of the whole loop. -/
theorem carryLoop_induct {P : Display → Prop} (ht : ∀ d c, P d → P (transition { d with modeclock := c }))
    (fuel : Nat) (d : Display) (h : P d) : P (carryLoop fuel d) := by
  induction fuel generalizing d with
  | zero => exact h
  | succ fuel ih =>
    simp only [carryLoop]
    split
    · exact h
    · exact ih _ (ht _ _ h)

/-- What holds of a display, of a display with another mode clock, and after a transition, holds after `display_step`. -/
theorem displayStep_induct {P : Display → Prop} (hc : ∀ d c, P d → P { d with modeclock := c })
    (ht : ∀ d, P d → P (transition d)) (m : OvershootMode) (ticks : Nat) (d : Display) (h : P d) :
    P (displayStep m ticks d) := by
  cases m with
  | carry => exact carryLoop_induct (fun d c hd => ht _ (hc d c hd)) _ _ (hc _ _ h)
  | discard =>
    simp only [displayStep, displayStepDiscard]
    split
    · exact ht _ (hc _ _ h)
    · exact hc _ _ h

/-- `display_step` leaves the stores, the configuration registers and the tile cache alone. -/
theorem displayStep_sameStores (m : OvershootMode) (ticks : Nat) (d : Display) :
    SameStores d (displayStep m ticks d) :=
  displayStep_induct (P := SameStores d)
    (fun _ _ ⟨h1, h2, h3, h4, h5, h6, h7, h8⟩ => ⟨h1, h2, h3, h4, h5, h6, h7, h8⟩)
    (fun e h => h.trans (transition_sameStores e)) m ticks d (SameStores.refl d)

@[simp] theorem displayStep_vram (m : OvershootMode) (n : Nat) (d : Display) : (displayStep m n d).vram = d.vram :=
  (displayStep_sameStores m n d).vram
@[simp] theorem displayStep_oam (m : OvershootMode) (n : Nat) (d : Display) : (displayStep m n d).oam = d.oam :=
  (displayStep_sameStores m n d).oam
@[simp] theorem displayStep_scx (m : OvershootMode) (n : Nat) (d : Display) : (displayStep m n d).scx = d.scx :=
  (displayStep_sameStores m n d).scx
@[simp] theorem displayStep_scy (m : OvershootMode) (n : Nat) (d : Display) : (displayStep m n d).scy = d.scy :=
  (displayStep_sameStores m n d).scy
@[simp] theorem displayStep_bgmapSel (m : OvershootMode) (n : Nat) (d : Display) :
    (displayStep m n d).bgmapSel = d.bgmapSel := (displayStep_sameStores m n d).bgmapSel
@[simp] theorem displayStep_tilesetSel (m : OvershootMode) (n : Nat) (d : Display) :
    (displayStep m n d).tilesetSel = d.tilesetSel := (displayStep_sameStores m n d).tilesetSel
@[simp] theorem displayStep_palette (m : OvershootMode) (n : Nat) (d : Display) :
    (displayStep m n d).palette = d.palette := (displayStep_sameStores m n d).palette
@[simp] theorem displayStep_tc (m : OvershootMode) (n : Nat) (d : Display) : (displayStep m n d).tc = d.tc :=
  (displayStep_sameStores m n d).tc

/-- The loop of R117 without fuel. -/
theorem displayStepCarry_eq (ticks : Nat) (d : Display) :
    displayStepCarry ticks d =
      if d.modeclock + ticks < threshold d.mode then { d with modeclock := d.modeclock + ticks }
      else displayStepCarry (d.modeclock + ticks - threshold d.mode) (transition { d with modeclock := 0 }) := by
  have hth := threshold_pos d.mode
  unfold displayStepCarry
  rcases hn : d.modeclock + ticks with _ | n
  · simp [carryLoop]; omega
  · simp only [carryLoop]
    split
    · rfl
    · have hle : n + 1 - threshold d.mode ≤ n := by omega
      rw [transition_modeclock_comm d 0, transition_modeclock_comm d (n + 1 - threshold d.mode)]
      simp only [Nat.zero_add]
      exact carryLoop_fuel _ _ _ hle le_rfl

theorem displayStepCarry_of_lt {d : Display} {n : Nat} (h : d.modeclock + n < threshold d.mode) :
    displayStepCarry n d = { d with modeclock := d.modeclock + n } := by
  rw [displayStepCarry_eq, if_pos h]

/-- Two steps under CARRY are one step of their ticks together (50_display.md R117). -/
theorem displayStepCarry_add (a b : Nat) (d : Display) :
    displayStepCarry b (displayStepCarry a d) = displayStepCarry (a + b) d := by
  generalize hk : a + d.modeclock = k
  induction k using Nat.strong_induction_on generalizing a d with
  | _ k ih =>
    have hth := threshold_pos d.mode
    by_cases h : d.modeclock + a < threshold d.mode
    · rw [displayStepCarry_of_lt h, displayStepCarry_eq b, displayStepCarry_eq (a + b)]
      simp only [Nat.add_assoc]
    · rw [displayStepCarry_eq a, if_neg h, displayStepCarry_eq (a + b), if_neg (by omega),
        ih (d.modeclock + a - threshold d.mode) (by omega) _ _ (by simp)]
      congr 1
      omega

-- ---- the rasterizer ----

/-- The pixel of background column `k` (counted on from the start of a background row) in tile row `ty` of map row `mrow`. -/
def backgroundColor (d : Display) (mrow : BitVec 5) (ty : Fin 8) (k : Nat) : Rgba :=
  paletteColor d.palette
    (((d.tc[mapTile d mrow (BitVec.ofNat 5 (k / 8))])[ty])[(⟨k % 8, Nat.mod_lt _ (by decide)⟩ : Fin 8)])

/-- The pixel loop, started at background column `k`, writes the pixels of the columns from `k` on, and no others
(50_display.md R130). -/
theorem renderPixels_get (d : Display) (mrow : BitVec 5) (ty : Fin 8) (n x k : Nat) (row : PixelRow) (tx : Fin 8)
    (col : BitVec 5) (htx : tx.val = k % 8) (hcol : col = BitVec.ofNat 5 (k / 8)) (j : Nat) (hj : j < 160) :
    (renderPixels d mrow ty n x tx col (mapTile d mrow col) row)[j] =
      if x ≤ j ∧ j < x + n then backgroundColor d mrow ty (k + (j - x)) else row[j] := by
  induction n generalizing x k row tx col with
  | zero => simp [renderPixels]
  | succ n ih =>
    have hp : paletteColor d.palette ((d.tc[mapTile d mrow col][ty])[tx]) = backgroundColor d mrow ty k := by
      subst hcol
      obtain ⟨tx, _⟩ := tx
      simp only at htx
      subst htx
      rfl
    have hnext : (if x + 1 ≤ j ∧ j < x + 1 + n then backgroundColor d mrow ty (k + 1 + (j - (x + 1)))
        else (row.setIfInBounds x (backgroundColor d mrow ty k))[j]) =
        if x ≤ j ∧ j < x + (n + 1) then backgroundColor d mrow ty (k + (j - x)) else row[j] := by
      by_cases hx : x = j
      · subst hx; simp
      · rw [Vector.getElem_setIfInBounds, if_neg hx]
        by_cases h : x ≤ j ∧ j < x + (n + 1)
        · rw [if_pos h, if_pos (by omega)]; congr 1; omega
        · rw [if_neg h, if_neg (by omega)]
    simp only [renderPixels]
    split
    · rw [ih (x + 1) (k + 1) _ _ _ (by simp; omega) (by rw [hcol]; congr 1; omega), hp, hnext]
    · rw [ih (x + 1) (k + 1) _ _ _ (by simp; omega)
        (by rw [hcol]; apply BitVec.eq_of_toNat_eq; simp; omega), hp, hnext]

-- ---- the tile cache ----

/-- The refresh changes the tile cache only. -/
theorem updateTile_eq (off : Nat) (d : Display) : updateTile off d = { d with tc := (updateTile off d).tc } := by
  unfold updateTile; split <;> rfl

/-- Which entry the refresh rewrites, and with what (50_display.md R127). -/
theorem updateTile_tc (off : Nat) (d : Display) (tile row : Nat) (ht : tile < 384) (hr : row < 8) :
    ((updateTile off d).tc[tile][row]) =
      if off < 0x1800 ∧ off / 16 = tile ∧ off / 2 % 8 = row then
        decodeRow (Memory.read d.vram (16 * tile + 2 * row)) (Memory.read d.vram (16 * tile + 2 * row + 1))
      else d.tc[tile][row] := by
  unfold updateTile
  by_cases h : off < 0x1800
  · simp only [h, dif_pos, true_and]
    by_cases h1 : off / 16 = tile
    · subst h1
      by_cases h2 : off / 2 % 8 = row
      · subst h2
        rw [show 2 * (off / 2) = 16 * (off / 16) + 2 * (off / 2 % 8) by omega]
        simp
      · simp [h2]
    · simp [h1]
  · simp [h]

@[simp] theorem vramWrite_vram (d : Display) (off : Nat) (v : Byte) :
    (vramWrite d off v).vram = Memory.write d.vram off v := by
  unfold vramWrite; rw [updateTile_eq]

/-- A video-memory write changes VRAM and the tile cache only. -/
theorem vramWrite_eq (d : Display) (off : Nat) (v : Byte) :
    vramWrite d off v = { d with vram := Memory.write d.vram off v, tc := (vramWrite d off v).tc } := by
  unfold vramWrite; rw [updateTile_eq]

@[simp] theorem vramWrite_oam (d : Display) (off : Nat) (v : Byte) : (vramWrite d off v).oam = d.oam := by
  rw [vramWrite_eq]
@[simp] theorem vramWrite_mode (d : Display) (off : Nat) (v : Byte) : (vramWrite d off v).mode = d.mode := by
  rw [vramWrite_eq]
@[simp] theorem vramWrite_modeclock (d : Display) (off : Nat) (v : Byte) : (vramWrite d off v).modeclock = d.modeclock := by
  rw [vramWrite_eq]
@[simp] theorem vramWrite_line (d : Display) (off : Nat) (v : Byte) : (vramWrite d off v).line = d.line := by
  rw [vramWrite_eq]
@[simp] theorem vramWrite_scx (d : Display) (off : Nat) (v : Byte) : (vramWrite d off v).scx = d.scx := by
  rw [vramWrite_eq]
@[simp] theorem vramWrite_scy (d : Display) (off : Nat) (v : Byte) : (vramWrite d off v).scy = d.scy := by
  rw [vramWrite_eq]
@[simp] theorem vramWrite_bgmapSel (d : Display) (off : Nat) (v : Byte) : (vramWrite d off v).bgmapSel = d.bgmapSel := by
  rw [vramWrite_eq]
@[simp] theorem vramWrite_tilesetSel (d : Display) (off : Nat) (v : Byte) : (vramWrite d off v).tilesetSel = d.tilesetSel := by
  rw [vramWrite_eq]
@[simp] theorem vramWrite_palette (d : Display) (off : Nat) (v : Byte) : (vramWrite d off v).palette = d.palette := by
  rw [vramWrite_eq]
@[simp] theorem vramWrite_fb (d : Display) (off : Nat) (v : Byte) : (vramWrite d off v).fb = d.fb := by
  rw [vramWrite_eq]
@[simp] theorem vramWrite_presents (d : Display) (off : Nat) (v : Byte) : (vramWrite d off v).presents = d.presents := by
  rw [vramWrite_eq]

end Sys2Proof.Machine
end

