-- ==== Sys2Proof/Laws/State.lean ====
section
/-! SUPPORT. The lemmas of each state update, one for each part it sets or leaves alone, so that no later proof unfolds a
record update. -/

namespace Sys2Proof.Machine

@[simp] theorem writeReg_bus (s : State) (r : Reg8) (v : Byte) : (writeReg s r v).bus = s.bus := by cases r <;> rfl
@[simp] theorem writeReg_lcd (s : State) (r : Reg8) (v : Byte) : (writeReg s r v).lcd = s.lcd := by cases r <;> rfl
@[simp] theorem writeReg_cfg (s : State) (r : Reg8) (v : Byte) : (writeReg s r v).cfg = s.cfg := by cases r <;> rfl
@[simp] theorem writeReg_cpu_f (s : State) (r : Reg8) (v : Byte) : (writeReg s r v).cpu.f = s.cpu.f := by cases r <;> rfl
@[simp] theorem writeReg_cpu_pc (s : State) (r : Reg8) (v : Byte) : (writeReg s r v).cpu.pc = s.cpu.pc := by cases r <;> rfl
@[simp] theorem writeReg_cpu_sp (s : State) (r : Reg8) (v : Byte) : (writeReg s r v).cpu.sp = s.cpu.sp := by cases r <;> rfl
@[simp] theorem writeReg_cpu_clkM (s : State) (r : Reg8) (v : Byte) : (writeReg s r v).cpu.clkM = s.cpu.clkM := by cases r <;> rfl
@[simp] theorem writeReg_cpu_clkT (s : State) (r : Reg8) (v : Byte) : (writeReg s r v).cpu.clkT = s.cpu.clkT := by cases r <;> rfl
@[simp] theorem writeReg_cpu_stopped (s : State) (r : Reg8) (v : Byte) : (writeReg s r v).cpu.stopped = s.cpu.stopped := by cases r <;> rfl
@[simp] theorem writeReg_cpu_faultOpcode (s : State) (r : Reg8) (v : Byte) : (writeReg s r v).cpu.faultOpcode = s.cpu.faultOpcode := by cases r <;> rfl
@[simp] theorem writeReg_cpu_faultPc (s : State) (r : Reg8) (v : Byte) : (writeReg s r v).cpu.faultPc = s.cpu.faultPc := by cases r <;> rfl
@[simp] theorem writeReg_a_cpu (s : State) (v : Byte) : (writeReg s .a v).cpu = { s.cpu with a := v } := rfl
@[simp] theorem writeReg_b_cpu (s : State) (v : Byte) : (writeReg s .b v).cpu = { s.cpu with b := v } := rfl
@[simp] theorem writeReg_c_cpu (s : State) (v : Byte) : (writeReg s .c v).cpu = { s.cpu with c := v } := rfl
@[simp] theorem writeReg_d_cpu (s : State) (v : Byte) : (writeReg s .d v).cpu = { s.cpu with d := v } := rfl
@[simp] theorem writeReg_e_cpu (s : State) (v : Byte) : (writeReg s .e v).cpu = { s.cpu with e := v } := rfl
@[simp] theorem writeReg_h_cpu (s : State) (v : Byte) : (writeReg s .h v).cpu = { s.cpu with h := v } := rfl
@[simp] theorem writeReg_l_cpu (s : State) (v : Byte) : (writeReg s .l v).cpu = { s.cpu with l := v } := rfl

@[simp] theorem writeF_bus (s : State) (v : Byte) : (writeF s v).bus = s.bus := rfl
@[simp] theorem writeF_lcd (s : State) (v : Byte) : (writeF s v).lcd = s.lcd := rfl
@[simp] theorem writeF_cfg (s : State) (v : Byte) : (writeF s v).cfg = s.cfg := rfl
@[simp] theorem writeF_cpu (s : State) (v : Byte) : (writeF s v).cpu = { s.cpu with f := v &&& 0xF0 } := rfl

@[simp] theorem setSp_bus (s : State) (v : Word) : (setSp s v).bus = s.bus := rfl
@[simp] theorem setSp_lcd (s : State) (v : Word) : (setSp s v).lcd = s.lcd := rfl
@[simp] theorem setSp_cfg (s : State) (v : Word) : (setSp s v).cfg = s.cfg := rfl
@[simp] theorem setSp_cpu (s : State) (v : Word) : (setSp s v).cpu = { s.cpu with sp := v } := rfl

@[simp] theorem advancePc_bus (s : State) (n : Word) : (advancePc s n).bus = s.bus := rfl
@[simp] theorem advancePc_lcd (s : State) (n : Word) : (advancePc s n).lcd = s.lcd := rfl
@[simp] theorem advancePc_cfg (s : State) (n : Word) : (advancePc s n).cfg = s.cfg := rfl
@[simp] theorem advancePc_cpu (s : State) (n : Word) : (advancePc s n).cpu = { s.cpu with pc := s.cpu.pc + n } := rfl

@[simp] theorem addCost_bus (m : Nat) (s : State) : (addCost m s).bus = s.bus := rfl
@[simp] theorem addCost_lcd (m : Nat) (s : State) : (addCost m s).lcd = s.lcd := rfl
@[simp] theorem addCost_cfg (m : Nat) (s : State) : (addCost m s).cfg = s.cfg := rfl
@[simp] theorem addCost_cpu (m : Nat) (s : State) : (addCost m s).cpu = { s.cpu with clkM := s.cpu.clkM + m, clkT := s.cpu.clkT + 4 * m } := rfl

@[simp] theorem advanceDisplay_cpu (n : Nat) (s : State) : (advanceDisplay n s).cpu = s.cpu := rfl
@[simp] theorem advanceDisplay_bus (n : Nat) (s : State) : (advanceDisplay n s).bus = s.bus := rfl
@[simp] theorem advanceDisplay_cfg (n : Nat) (s : State) : (advanceDisplay n s).cfg = s.cfg := rfl
@[simp] theorem advanceDisplay_lcd (n : Nat) (s : State) : (advanceDisplay n s).lcd = displayStep s.cfg.overshootMode n s.lcd := rfl

@[simp] theorem pastOpcode_bus (s : State) : (pastOpcode s).bus = s.bus := rfl
@[simp] theorem pastOpcode_lcd (s : State) : (pastOpcode s).lcd = s.lcd := rfl
@[simp] theorem pastOpcode_cfg (s : State) : (pastOpcode s).cfg = s.cfg := rfl
@[simp] theorem pastOpcode_cpu (s : State) : (pastOpcode s).cpu = { s.cpu with pc := s.cpu.pc + 1 } := rfl

@[simp] theorem dropByte_bus (s : State) : (dropByte s).bus = s.bus := rfl
@[simp] theorem dropByte_lcd (s : State) : (dropByte s).lcd = s.lcd := rfl
@[simp] theorem dropByte_cfg (s : State) : (dropByte s).cfg = s.cfg := rfl
@[simp] theorem dropByte_cpu (s : State) : (dropByte s).cpu = { s.cpu with sp := s.cpu.sp + 1 } := rfl

@[simp] theorem bootExit_cpu (s : State) : (bootExit s).cpu = s.cpu := by unfold bootExit; split <;> rfl
@[simp] theorem bootExit_lcd (s : State) : (bootExit s).lcd = s.lcd := by unfold bootExit; split <;> rfl
@[simp] theorem bootExit_cfg (s : State) : (bootExit s).cfg = s.cfg := by unfold bootExit; split <;> rfl
@[simp] theorem bootExit_bus_bootRom (s : State) : (bootExit s).bus.bootRom = s.bus.bootRom := by unfold bootExit; split <;> rfl
@[simp] theorem bootExit_bus_cart (s : State) : (bootExit s).bus.cart = s.bus.cart := by unfold bootExit; split <;> rfl
@[simp] theorem bootExit_bus_cartLen (s : State) : (bootExit s).bus.cartLen = s.bus.cartLen := by unfold bootExit; split <;> rfl
@[simp] theorem bootExit_bus_wram (s : State) : (bootExit s).bus.wram = s.bus.wram := by unfold bootExit; split <;> rfl
@[simp] theorem bootExit_bus_eram (s : State) : (bootExit s).bus.eram = s.bus.eram := by unfold bootExit; split <;> rfl
@[simp] theorem bootExit_bus_zram (s : State) : (bootExit s).bus.zram = s.bus.zram := by unfold bootExit; split <;> rfl
@[simp] theorem bootExit_bus_inboot (s : State) : (bootExit s).bus.inboot = (s.bus.inboot && decide (s.cpu.pc ≠ 0x0100)) := by
  unfold bootExit
  split
  · rename_i h; simp [h.2]
  · rename_i h; cases hb : s.bus.inboot <;> simp_all

@[simp] theorem writeRegion_cpu (s : State) (v : Byte) (r : Region) : (writeRegion s v r).cpu = s.cpu := by cases r <;> rfl
@[simp] theorem writeRegion_cfg (s : State) (v : Byte) (r : Region) : (writeRegion s v r).cfg = s.cfg := by cases r <;> rfl
@[simp] theorem writeRegion_bus_inboot (s : State) (v : Byte) (r : Region) : (writeRegion s v r).bus.inboot = s.bus.inboot := by cases r <;> rfl
@[simp] theorem writeRegion_bus_bootRom (s : State) (v : Byte) (r : Region) : (writeRegion s v r).bus.bootRom = s.bus.bootRom := by cases r <;> rfl
@[simp] theorem writeRegion_bus_cart (s : State) (v : Byte) (r : Region) : (writeRegion s v r).bus.cart = s.bus.cart := by cases r <;> rfl
@[simp] theorem writeRegion_bus_cartLen (s : State) (v : Byte) (r : Region) : (writeRegion s v r).bus.cartLen = s.bus.cartLen := by cases r <;> rfl

@[simp] theorem write8_cpu (s : State) (a : Word) (v : Byte) : (write8 s a v).cpu = s.cpu := writeRegion_cpu _ _ _
@[simp] theorem write8_cfg (s : State) (a : Word) (v : Byte) : (write8 s a v).cfg = s.cfg := writeRegion_cfg _ _ _
@[simp] theorem write8_bus_inboot (s : State) (a : Word) (v : Byte) : (write8 s a v).bus.inboot = s.bus.inboot := writeRegion_bus_inboot _ _ _
@[simp] theorem write8_bus_bootRom (s : State) (a : Word) (v : Byte) : (write8 s a v).bus.bootRom = s.bus.bootRom := writeRegion_bus_bootRom _ _ _
@[simp] theorem write8_bus_cart (s : State) (a : Word) (v : Byte) : (write8 s a v).bus.cart = s.bus.cart := writeRegion_bus_cart _ _ _
@[simp] theorem write8_bus_cartLen (s : State) (a : Word) (v : Byte) : (write8 s a v).bus.cartLen = s.bus.cartLen := writeRegion_bus_cartLen _ _ _

@[simp] theorem pushByte_cpu (s : State) (v : Byte) : (pushByte s v).cpu = { s.cpu with sp := s.cpu.sp - 1 } := by simp [pushByte]
@[simp] theorem pushByte_cfg (s : State) (v : Byte) : (pushByte s v).cfg = s.cfg := by simp [pushByte]
@[simp] theorem pushByte_bus_inboot (s : State) (v : Byte) : (pushByte s v).bus.inboot = s.bus.inboot := by simp [pushByte]
@[simp] theorem pushByte_bus_bootRom (s : State) (v : Byte) : (pushByte s v).bus.bootRom = s.bus.bootRom := by simp [pushByte]
@[simp] theorem pushByte_bus_cart (s : State) (v : Byte) : (pushByte s v).bus.cart = s.bus.cart := by simp [pushByte]
@[simp] theorem pushByte_bus_cartLen (s : State) (v : Byte) : (pushByte s v).bus.cartLen = s.bus.cartLen := by simp [pushByte]

@[simp] theorem writePair_bus (s : State) (p : Pair) (hi lo : Byte) : (writePair s p hi lo).bus = s.bus := by cases p <;> rfl
@[simp] theorem writePair_lcd (s : State) (p : Pair) (hi lo : Byte) : (writePair s p hi lo).lcd = s.lcd := by cases p <;> rfl
@[simp] theorem writePair_cfg (s : State) (p : Pair) (hi lo : Byte) : (writePair s p hi lo).cfg = s.cfg := by cases p <;> rfl
@[simp] theorem writePair_cpu_pc (s : State) (p : Pair) (hi lo : Byte) : (writePair s p hi lo).cpu.pc = s.cpu.pc := by cases p <;> rfl
@[simp] theorem writePair_cpu_sp (s : State) (p : Pair) (hi lo : Byte) : (writePair s p hi lo).cpu.sp = s.cpu.sp := by cases p <;> rfl
@[simp] theorem writePair_cpu_clkM (s : State) (p : Pair) (hi lo : Byte) : (writePair s p hi lo).cpu.clkM = s.cpu.clkM := by cases p <;> rfl
@[simp] theorem writePair_cpu_clkT (s : State) (p : Pair) (hi lo : Byte) : (writePair s p hi lo).cpu.clkT = s.cpu.clkT := by cases p <;> rfl
@[simp] theorem writePair_cpu_stopped (s : State) (p : Pair) (hi lo : Byte) : (writePair s p hi lo).cpu.stopped = s.cpu.stopped := by cases p <;> rfl
@[simp] theorem writePair_cpu_faultOpcode (s : State) (p : Pair) (hi lo : Byte) : (writePair s p hi lo).cpu.faultOpcode = s.cpu.faultOpcode := by cases p <;> rfl
@[simp] theorem writePair_cpu_faultPc (s : State) (p : Pair) (hi lo : Byte) : (writePair s p hi lo).cpu.faultPc = s.cpu.faultPc := by cases p <;> rfl

/-- A completed instruction: the counters and the display are all that `complete` adds to the handler's state. -/
theorem complete_eq (m : Nat) (s : State) :
    complete m s = .next { s with
      cpu := { s.cpu with clkM := s.cpu.clkM + m, clkT := s.cpu.clkT + 4 * m }
      lcd := displayStep s.cfg.overshootMode (4 * m) s.lcd } := rfl

/-- The fatal stop writes the record and nothing else (60_exceptions.md R137). -/
theorem raiseFatal_eq (op : Byte) (s : State) :
    raiseFatal op s = .next { s with
      cpu := { s.cpu with stopped := true, faultOpcode := op, faultPc := s.cpu.pc - 1 } } := rfl

end Sys2Proof.Machine
end

