-- ==== Sys2Proof/Laws/Bus.lean ====
section
/-! SUPPORT. What the bus operations can do: what an address selects, what a read depends on, what a write changes, and that a
write keeps the canonical form of every store. -/

namespace Sys2Proof.Machine

/-- The offset of a selected region lies inside its store (20_memory.md R46 with the sizes of 10_state.md R30); a cartridge
offset is an address below 0x8000. -/
def Region.InStore : Region → Prop
  | .bootRom off => off < 0x100
  | .cart off => off < 0x8000
  | .vram off => off < 0x2000
  | .eram off => off < 0x2000
  | .wram off => off < 0x2000
  | .oam off => off < 0xA0
  | .zram off => off < 0x7F
  | .unmapped => True
  | .reserved => True

theorem decodeAddr_inStore (inboot : Bool) (addr : Word) : (decodeAddr inboot addr).InStore := by
  have := addr.isLt
  unfold decodeAddr
  dsimp only
  repeat' split
  all_goals simp only [Region.InStore]
  all_goals omega

/-- The rows of the table of 20_memory.md R46, one lemma each. -/
theorem decodeAddr_boot (a : Word) (h : a.toNat < 0x100) : decodeAddr true a = .bootRom a.toNat := by
  simp [decodeAddr, h]

theorem decodeAddr_low (a : Word) (h : a.toNat < 0x100) : decodeAddr false a = .cart a.toNat := by
  simp [decodeAddr, h]

theorem decodeAddr_cart (b : Bool) (a : Word) (h : 0x100 ≤ a.toNat) (h' : a.toNat < 0x8000) :
    decodeAddr b a = .cart a.toNat := by
  simp [decodeAddr, h.not_gt, h']

theorem decodeAddr_vram (b : Bool) (a : Word) (h : 0x8000 ≤ a.toNat) (h' : a.toNat < 0xA000) :
    decodeAddr b a = .vram (a.toNat % 0x2000) := by
  unfold decodeAddr
  dsimp only
  rw [if_neg (show ¬a.toNat < 0x0100 by omega)]
  rw [if_neg (show ¬a.toNat < 0x8000 by omega)]
  rw [if_pos h']

theorem decodeAddr_eram (b : Bool) (a : Word) (h : 0xA000 ≤ a.toNat) (h' : a.toNat < 0xC000) :
    decodeAddr b a = .eram (a.toNat % 0x2000) := by
  unfold decodeAddr
  dsimp only
  rw [if_neg (show ¬a.toNat < 0x0100 by omega)]
  rw [if_neg (show ¬a.toNat < 0x8000 by omega)]
  rw [if_neg (show ¬a.toNat < 0xA000 by omega)]
  rw [if_pos h']

theorem decodeAddr_wram (b : Bool) (a : Word) (h : 0xC000 ≤ a.toNat) (h' : a.toNat < 0xFE00) :
    decodeAddr b a = .wram (a.toNat % 0x2000) := by
  unfold decodeAddr
  dsimp only
  rw [if_neg (show ¬a.toNat < 0x0100 by omega)]
  rw [if_neg (show ¬a.toNat < 0x8000 by omega)]
  rw [if_neg (show ¬a.toNat < 0xA000 by omega)]
  rw [if_neg (show ¬a.toNat < 0xC000 by omega)]
  rw [if_pos h', ite_self]

theorem decodeAddr_oam (b : Bool) (a : Word) (h : 0xFE00 ≤ a.toNat) (h' : a.toNat < 0xFEA0) :
    decodeAddr b a = .oam (a.toNat % 0x100) := by
  unfold decodeAddr
  dsimp only
  rw [if_neg (show ¬a.toNat < 0x0100 by omega)]
  rw [if_neg (show ¬a.toNat < 0x8000 by omega)]
  rw [if_neg (show ¬a.toNat < 0xA000 by omega)]
  rw [if_neg (show ¬a.toNat < 0xC000 by omega)]
  rw [if_neg (show ¬a.toNat < 0xE000 by omega)]
  rw [if_neg (show ¬a.toNat < 0xFE00 by omega)]
  rw [if_pos h']

theorem decodeAddr_unmapped (b : Bool) (a : Word) (h : 0xFEA0 ≤ a.toNat) (h' : a.toNat < 0xFF00) :
    decodeAddr b a = .unmapped := by
  unfold decodeAddr
  dsimp only
  rw [if_neg (show ¬a.toNat < 0x0100 by omega)]
  rw [if_neg (show ¬a.toNat < 0x8000 by omega)]
  rw [if_neg (show ¬a.toNat < 0xA000 by omega)]
  rw [if_neg (show ¬a.toNat < 0xC000 by omega)]
  rw [if_neg (show ¬a.toNat < 0xE000 by omega)]
  rw [if_neg (show ¬a.toNat < 0xFE00 by omega)]
  rw [if_neg (show ¬a.toNat < 0xFEA0 by omega)]
  rw [if_pos h']

theorem decodeAddr_reserved (b : Bool) (a : Word) (h : 0xFF00 ≤ a.toNat) (h' : a.toNat < 0xFF80) :
    decodeAddr b a = .reserved := by
  unfold decodeAddr
  dsimp only
  rw [if_neg (show ¬a.toNat < 0x0100 by omega)]
  rw [if_neg (show ¬a.toNat < 0x8000 by omega)]
  rw [if_neg (show ¬a.toNat < 0xA000 by omega)]
  rw [if_neg (show ¬a.toNat < 0xC000 by omega)]
  rw [if_neg (show ¬a.toNat < 0xE000 by omega)]
  rw [if_neg (show ¬a.toNat < 0xFE00 by omega)]
  rw [if_neg (show ¬a.toNat < 0xFEA0 by omega)]
  rw [if_neg (show ¬a.toNat < 0xFF00 by omega)]
  rw [if_pos h']

theorem decodeAddr_zram (b : Bool) (a : Word) (h : 0xFF80 ≤ a.toNat) (h' : a.toNat < 0xFFFF) :
    decodeAddr b a = .zram (a.toNat - 0xFF80) := by
  unfold decodeAddr
  dsimp only
  rw [if_neg (show ¬a.toNat < 0x0100 by omega)]
  rw [if_neg (show ¬a.toNat < 0x8000 by omega)]
  rw [if_neg (show ¬a.toNat < 0xA000 by omega)]
  rw [if_neg (show ¬a.toNat < 0xC000 by omega)]
  rw [if_neg (show ¬a.toNat < 0xE000 by omega)]
  rw [if_neg (show ¬a.toNat < 0xFE00 by omega)]
  rw [if_neg (show ¬a.toNat < 0xFEA0 by omega)]
  rw [if_neg (show ¬a.toNat < 0xFF00 by omega)]
  rw [if_neg (show ¬a.toNat < 0xFF80 by omega)]
  rw [if_pos h']

theorem decodeAddr_top (b : Bool) (a : Word) (h : a.toNat = 0xFFFF) : decodeAddr b a = .reserved := by
  simp [decodeAddr, h]

/-- A read depends on the bus, VRAM and OAM alone. -/
theorem read8_congr {s t : State} (hb : t.bus = s.bus) (hv : t.lcd.vram = s.lcd.vram) (ho : t.lcd.oam = s.lcd.oam)
    (addr : Word) : read8 t addr = read8 s addr := by
  unfold read8 readRegion cartByte vramRead oamRead
  rw [hb, hv, ho]

/-- What changes no store and not the bootstrap bit changes no read. -/
@[simp] theorem read8_writeReg (s : State) (r : Reg8) (v : Byte) (addr : Word) :
    read8 (writeReg s r v) addr = read8 s addr := read8_congr (by simp) (by simp) (by simp) _
@[simp] theorem read8_writeF (s : State) (v : Byte) (addr : Word) :
    read8 (writeF s v) addr = read8 s addr := read8_congr (by simp) (by simp) (by simp) _
@[simp] theorem read8_setSp (s : State) (v : Word) (addr : Word) :
    read8 (setSp s v) addr = read8 s addr := read8_congr (by simp) (by simp) (by simp) _
@[simp] theorem read8_advancePc (s : State) (n : Word) (addr : Word) :
    read8 (advancePc s n) addr = read8 s addr := read8_congr (by simp) (by simp) (by simp) _
@[simp] theorem read8_dropByte (s : State) (addr : Word) :
    read8 (dropByte s) addr = read8 s addr := read8_congr (by simp) (by simp) (by simp) _
@[simp] theorem read8_pastOpcode (s : State) (addr : Word) :
    read8 (pastOpcode s) addr = read8 s addr := read8_congr (by simp) (by simp) (by simp) _
@[simp] theorem read8_addCost (s : State) (m : Nat) (addr : Word) :
    read8 (addCost m s) addr = read8 s addr := read8_congr (by simp) (by simp) (by simp) _
@[simp] theorem read8_writePair (s : State) (p : Pair) (hi lo : Byte) (addr : Word) :
    read8 (writePair s p hi lo) addr = read8 s addr := read8_congr (by simp) (by simp) (by simp) _
@[simp] theorem read8_advanceDisplay (s : State) (n : Nat) (addr : Word) :
    read8 (advanceDisplay n s) addr = read8 s addr := read8_congr (by simp) (by simp) (by simp) _

/-- A write depends on the bus and display alone, and carries any change of the CPU through. -/
theorem write8_withCpu (s : State) (c : Cpu) (addr : Word) (v : Byte) :
    write8 { s with cpu := c } addr v = { write8 s addr v with cpu := c } := by
  unfold write8
  dsimp only
  cases decodeAddr s.bus.inboot addr <;> rfl

theorem write8_setSp (s : State) (sp addr : Word) (v : Byte) : write8 (setSp s sp) addr v = setSp (write8 s addr v) sp := by
  unfold setSp
  rw [write8_withCpu, write8_cpu]

/-- The two bytes POP reads (42_stack.md R110). -/
theorem topByte_eq (s : State) : topByte s = read8 s s.cpu.sp := rfl

@[simp] theorem topByte_dropByte (s : State) : topByte (dropByte s) = read8 s (s.cpu.sp + 1) := by
  simp [topByte_eq]

/-- PUSH's two byte writes as two bus writes at the old sp (42_stack.md R105). -/
theorem pushByte_pushByte (s : State) (hi lo : Byte) :
    pushByte (pushByte s hi) lo = setSp (write8 (write8 s (s.cpu.sp - 1) hi) (s.cpu.sp - 2) lo) (s.cpu.sp - 2) := by
  have h : s.cpu.sp - 1 - 1 = s.cpu.sp - 2 := by rw [BitVec.sub_sub]; rfl
  simp only [pushByte, write8_setSp, setSp_cpu, write8_cpu, h]
  rfl

/-- Every store is in canonical form (10_state.md R30 with the form of Machine/Memory.lean). -/
def StoresWf (s : State) : Prop :=
  (Memory.wf 0x100 s.bus.bootRom = true ∧ Memory.wf s.bus.cartLen s.bus.cart = true ∧
    Memory.wf 0x2000 s.bus.wram = true ∧ Memory.wf 0x2000 s.bus.eram = true ∧ Memory.wf 0x7F s.bus.zram = true) ∧
  (Memory.wf 0x2000 s.lcd.vram = true ∧ Memory.wf 0xA0 s.lcd.oam = true)

theorem write8_storesWf {s : State} (h : StoresWf s) (addr : Word) (v : Byte) : StoresWf (write8 s addr v) := by
  obtain ⟨⟨h1, h2, h3, h4, h5⟩, h6, h7⟩ := h
  have hin := decodeAddr_inStore s.bus.inboot addr
  unfold write8
  cases hr : decodeAddr s.bus.inboot addr with
  | vram off =>
    rw [hr] at hin
    exact ⟨⟨h1, h2, h3, h4, h5⟩, by simpa [writeRegion] using Memory.wf_write h6 hin v,
      by simpa [writeRegion] using h7⟩
  | eram off => rw [hr] at hin; exact ⟨⟨h1, h2, h3, Memory.wf_write h4 hin v, h5⟩, h6, h7⟩
  | wram off => rw [hr] at hin; exact ⟨⟨h1, h2, Memory.wf_write h3 hin v, h4, h5⟩, h6, h7⟩
  | oam off => rw [hr] at hin; exact ⟨⟨h1, h2, h3, h4, h5⟩, h6, Memory.wf_write h7 hin v⟩
  | zram off => rw [hr] at hin; exact ⟨⟨h1, h2, h3, h4, Memory.wf_write h5 hin v⟩, h6, h7⟩
  | bootRom off => exact ⟨⟨h1, h2, h3, h4, h5⟩, h6, h7⟩
  | cart off => exact ⟨⟨h1, h2, h3, h4, h5⟩, h6, h7⟩
  | unmapped => exact ⟨⟨h1, h2, h3, h4, h5⟩, h6, h7⟩
  | reserved => exact ⟨⟨h1, h2, h3, h4, h5⟩, h6, h7⟩

/-- The tile cache is the decode of VRAM (10_state.md R37). -/
def TilesCoherent (d : Display) : Prop :=
  ∀ (tile : Fin 384) (row : Fin 8), d.tc[tile][row] =
    decodeRow (Memory.read d.vram (16 * tile.val + 2 * row.val)) (Memory.read d.vram (16 * tile.val + 2 * row.val + 1))

/-- A video-memory write keeps the tile cache coherent (50_display.md R127, 20_memory.md R67). -/
theorem vramWrite_coherent {d : Display} (h : TilesCoherent d) (off : Nat) (v : Byte) :
    TilesCoherent (vramWrite d off v) := by
  intro tile row
  have ht := updateTile_tc off { d with vram := Memory.write d.vram off v } tile row tile.isLt row.isLt
  simp only [vramWrite_vram]
  refine Eq.trans (b := (updateTile off { d with vram := Memory.write d.vram off v }).tc[tile.val][row.val]) rfl ?_
  rw [ht]
  have := tile.isLt
  have := row.isLt
  split
  · rfl
  · rename_i hn
    rw [Memory.read_write_other (by omega), Memory.read_write_other (by omega)]
    exact h tile row

theorem write8_coherent {s : State} (h : TilesCoherent s.lcd) (addr : Word) (v : Byte) :
    TilesCoherent (write8 s addr v).lcd := by
  unfold write8
  cases decodeAddr s.bus.inboot addr <;> first | exact h | exact vramWrite_coherent h _ _

/-- What a bus write leaves of the display: everything but VRAM, OAM and the tile cache. -/
theorem write8_lcd (s : State) (addr : Word) (v : Byte) :
    (write8 s addr v).lcd = { s.lcd with
      vram := (write8 s addr v).lcd.vram, oam := (write8 s addr v).lcd.oam, tc := (write8 s addr v).lcd.tc } := by
  unfold write8
  cases decodeAddr s.bus.inboot addr with
  | vram off => simp only [writeRegion]; rw [vramWrite_eq]
  | _ => rfl

end Sys2Proof.Machine
end

