-- ==== Sys2Proof/Laws/Decode.lean ====
section
/-! SUPPORT. The small lemmas of the decoder: splitting and joining the two operand bytes, and what each entry of the
dispatch table is. -/

namespace Sys2Proof

/-- `nn = {byte2, byte1}` as a number (30_encoding.md R70). -/
theorem joinBytes_toNat (hi lo : Byte) : (joinBytes hi lo).toNat = lo.toNat + 256 * hi.toNat := by
  have hlo := lo.isLt
  unfold joinBytes
  rw [BitVec.toNat_append, ← Nat.shiftLeft_add_eq_or_of_lt hlo, Nat.shiftLeft_eq]
  omega

theorem lowByte_toNat (w : Word) : (lowByte w).toNat = w.toNat % 256 := by
  simp [lowByte]

theorem highByte_toNat (w : Word) : (highByte w).toNat = w.toNat / 256 := by
  have := w.isLt
  simp [highByte, Nat.shiftRight_eq_div_pow]
  omega

@[simp] theorem joinBytes_high_low (w : Word) : joinBytes (highByte w) (lowByte w) = w := by
  apply BitVec.eq_of_toNat_eq
  rw [joinBytes_toNat, lowByte_toNat, highByte_toNat]
  omega

@[simp] theorem lowByte_joinBytes (hi lo : Byte) : lowByte (joinBytes hi lo) = lo := by
  have := lo.isLt
  apply BitVec.eq_of_toNat_eq
  rw [lowByte_toNat, joinBytes_toNat]
  omega

@[simp] theorem highByte_joinBytes (hi lo : Byte) : highByte (joinBytes hi lo) = hi := by
  have := lo.isLt
  apply BitVec.eq_of_toNat_eq
  rw [highByte_toNat, joinBytes_toNat]
  omega

/-- Only the opcode 0xFA is followed by an operand (R68). -/
theorem dispatchEntry_formatI16 : ∀ op : Byte, dispatchEntry op = .formatI16 ↔ op = 0xFA := by decide

/-- The table's entry for an opcode is the instruction whose code is that byte (R74, R75). -/
theorem encode_of_dispatchEntry {op : Byte} {i : Instr} (h : dispatchEntry op = .formatO i) : encode i = [op] := by
  have all : ∀ op : Byte, (match dispatchEntry op with
      | .formatO i => decide (encode i = [op])
      | .formatI16 => true) = true := by decide
  have := all op
  rw [h] at this
  simpa using this

/-- What decoding does with an opcode that has no operand. -/
theorem decode_formatO {op : Byte} {i : Instr} (h : dispatchEntry op = .formatO i) (rest : List Byte) :
    decode (op :: rest) = .ok (i, rest) := by
  simp [decode, h]

end Sys2Proof
end

