-- ==== Sys2Proof/Laws/Flags.lean ====
section
/-! SUPPORT. The small lemmas of the flag computations: the bits of the packed flag byte, the masked result as a number, and
the half-carry as a carry of the low nibbles. -/

namespace Sys2Proof.Machine

/-- Where each flag stands in the packed byte (40_alu.md R86). -/
theorem packFlags_bits (z n h c : Bool) :
    (packFlags z n h c).getLsbD 7 = z ∧ (packFlags z n h c).getLsbD 6 = n ∧ (packFlags z n h c).getLsbD 5 = h ∧
      (packFlags z n h c).getLsbD 4 = c ∧ packFlags z n h c &&& 0x0F = 0 := by
  revert z n h c; decide

/-- The mask of 10_state.md R20 takes nothing from a packed flag byte. -/
@[simp] theorem packFlags_masked (z n h c : Bool) : packFlags z n h c &&& 0xF0#8 = packFlags z n h c := by
  revert z n h c; decide

/-- `mask8` is the residue mod 256 (00_scope.md R13). -/
theorem mask8_toNat (u : Int) : ((mask8 u).toNat : Int) = u % 256 := by
  simp [mask8, BitVec.toNat_ofInt]; omega

theorem mask8_eq_zero (u : Int) : mask8 u = 0 ↔ u % 256 = 0 := by
  rw [← mask8_toNat, ← BitVec.toNat_inj]; simp

/-- The low eight bits of the unmasked result are the 8-bit sum or difference. -/
theorem ofInt_unmasked_add (x y : Byte) : BitVec.ofInt 8 (unmasked .add x y) = x + y := by
  apply BitVec.eq_of_toNat_eq
  rw [BitVec.toNat_ofInt, BitVec.toNat_add, unmasked]
  omega

theorem ofInt_unmasked_sub (x y : Byte) : BitVec.ofInt 8 (unmasked .sub x y) = x - y := by
  have := x.isLt
  have := y.isLt
  apply BitVec.eq_of_toNat_eq
  rw [BitVec.toNat_ofInt, BitVec.toNat_sub, unmasked]
  omega

/-- Bit 4 of x ^ y ^ (x + y) is the carry out of the low nibbles (40_alu.md R84). -/
theorem carry_into_bit4 (x y : Byte) :
    (x ^^^ y ^^^ (x + y)).getLsbD 4 = decide (x.toNat % 16 + y.toNat % 16 > 15) := by
  have h : (x ^^^ y ^^^ (x + y)).getLsbD 4 = BitVec.carry 4 x y false := by
    rw [BitVec.getLsbD_xor, BitVec.getLsbD_xor, BitVec.getLsbD_add (by omega)]
    cases x.getLsbD 4 <;> cases y.getLsbD 4 <;> simp
  rw [h]
  simp [BitVec.carry]
  omega

/-- Bit 4 of x ^ y ^ (x - y) is the borrow into the low nibble (R84). -/
theorem borrow_from_bit4 (x y : Byte) :
    (x ^^^ y ^^^ (x - y)).getLsbD 4 = decide (x.toNat % 16 < y.toNat % 16) := by
  obtain ⟨z, rfl⟩ : ∃ z, x = z + y := ⟨x - y, by simp⟩
  have hz := z.isLt
  have hy := y.isLt
  rw [BitVec.add_sub_cancel, show (z + y) ^^^ y ^^^ z = z ^^^ y ^^^ (z + y) by
    rw [BitVec.xor_comm, ← BitVec.xor_assoc, BitVec.xor_assoc, BitVec.xor_comm (z + y), BitVec.xor_assoc],
    carry_into_bit4]
  simp only [BitVec.toNat_add, decide_eq_decide]
  omega

end Sys2Proof.Machine
end

