-- ==== Sys2Proof/Laws/PerInstr.lean ====
section
/-! SUPPORT. Statements made per instruction. `Encoding`: the words the encoder gives an instruction are the code of exactly
one instruction, by the length rule of 30_encoding.md R68. -/

namespace Sys2Proof.Laws.Encoding

/-- The encoding of an instruction has an opcode and exactly the operand bytes that its opcode alone fixes (R68). -/
def Statement (i : Instr) : Prop := codeWellFormed (encode i) = true

theorem nop : Statement .nop := rfl
theorem fatal01 : Statement .fatal01 := rfl
theorem fatal02 : Statement .fatal02 := rfl
theorem fatal03 : Statement .fatal03 := rfl
theorem fatal04 : Statement .fatal04 := rfl
theorem fatal05 : Statement .fatal05 := rfl
theorem fatal06 : Statement .fatal06 := rfl
theorem fatal07 : Statement .fatal07 := rfl
theorem fatal08 : Statement .fatal08 := rfl
theorem fatal09 : Statement .fatal09 := rfl
theorem fatal0A : Statement .fatal0A := rfl
theorem fatal0B : Statement .fatal0B := rfl
theorem fatal0C : Statement .fatal0C := rfl
theorem fatal0D : Statement .fatal0D := rfl
theorem fatal0E : Statement .fatal0E := rfl
theorem fatal0F : Statement .fatal0F := rfl
theorem fatal10 : Statement .fatal10 := rfl
theorem fatal11 : Statement .fatal11 := rfl
theorem fatal12 : Statement .fatal12 := rfl
theorem fatal13 : Statement .fatal13 := rfl
theorem fatal14 : Statement .fatal14 := rfl
theorem fatal15 : Statement .fatal15 := rfl
theorem fatal16 : Statement .fatal16 := rfl
theorem fatal17 : Statement .fatal17 := rfl
theorem fatal18 : Statement .fatal18 := rfl
theorem fatal19 : Statement .fatal19 := rfl
theorem fatal1A : Statement .fatal1A := rfl
theorem fatal1B : Statement .fatal1B := rfl
theorem fatal1C : Statement .fatal1C := rfl
theorem fatal1D : Statement .fatal1D := rfl
theorem fatal1E : Statement .fatal1E := rfl
theorem fatal1F : Statement .fatal1F := rfl
theorem fatal20 : Statement .fatal20 := rfl
theorem fatal21 : Statement .fatal21 := rfl
theorem fatal22 : Statement .fatal22 := rfl
theorem fatal23 : Statement .fatal23 := rfl
theorem fatal24 : Statement .fatal24 := rfl
theorem fatal25 : Statement .fatal25 := rfl
theorem fatal26 : Statement .fatal26 := rfl
theorem fatal27 : Statement .fatal27 := rfl
theorem fatal28 : Statement .fatal28 := rfl
theorem fatal29 : Statement .fatal29 := rfl
theorem fatal2A : Statement .fatal2A := rfl
theorem fatal2B : Statement .fatal2B := rfl
theorem fatal2C : Statement .fatal2C := rfl
theorem fatal2D : Statement .fatal2D := rfl
theorem fatal2E : Statement .fatal2E := rfl
theorem fatal2F : Statement .fatal2F := rfl
theorem fatal30 : Statement .fatal30 := rfl
theorem fatal31 : Statement .fatal31 := rfl
theorem fatal32 : Statement .fatal32 := rfl
theorem fatal33 : Statement .fatal33 := rfl
theorem fatal34 : Statement .fatal34 := rfl
theorem fatal35 : Statement .fatal35 := rfl
theorem fatal36 : Statement .fatal36 := rfl
theorem fatal37 : Statement .fatal37 := rfl
theorem fatal38 : Statement .fatal38 := rfl
theorem fatal39 : Statement .fatal39 := rfl
theorem fatal3A : Statement .fatal3A := rfl
theorem fatal3B : Statement .fatal3B := rfl
theorem fatal3C : Statement .fatal3C := rfl
theorem fatal3D : Statement .fatal3D := rfl
theorem fatal3E : Statement .fatal3E := rfl
theorem fatal3F : Statement .fatal3F := rfl
theorem fatal40 : Statement .fatal40 := rfl
theorem fatal41 : Statement .fatal41 := rfl
theorem fatal42 : Statement .fatal42 := rfl
theorem fatal43 : Statement .fatal43 := rfl
theorem fatal44 : Statement .fatal44 := rfl
theorem fatal45 : Statement .fatal45 := rfl
theorem fatal46 : Statement .fatal46 := rfl
theorem fatal47 : Statement .fatal47 := rfl
theorem fatal48 : Statement .fatal48 := rfl
theorem fatal49 : Statement .fatal49 := rfl
theorem fatal4A : Statement .fatal4A := rfl
theorem fatal4B : Statement .fatal4B := rfl
theorem fatal4C : Statement .fatal4C := rfl
theorem fatal4D : Statement .fatal4D := rfl
theorem fatal4E : Statement .fatal4E := rfl
theorem fatal4F : Statement .fatal4F := rfl
theorem fatal50 : Statement .fatal50 := rfl
theorem fatal51 : Statement .fatal51 := rfl
theorem fatal52 : Statement .fatal52 := rfl
theorem fatal53 : Statement .fatal53 := rfl
theorem fatal54 : Statement .fatal54 := rfl
theorem fatal55 : Statement .fatal55 := rfl
theorem fatal56 : Statement .fatal56 := rfl
theorem fatal57 : Statement .fatal57 := rfl
theorem fatal58 : Statement .fatal58 := rfl
theorem fatal59 : Statement .fatal59 := rfl
theorem fatal5A : Statement .fatal5A := rfl
theorem fatal5B : Statement .fatal5B := rfl
theorem fatal5C : Statement .fatal5C := rfl
theorem fatal5D : Statement .fatal5D := rfl
theorem fatal5E : Statement .fatal5E := rfl
theorem fatal5F : Statement .fatal5F := rfl
theorem fatal60 : Statement .fatal60 := rfl
theorem fatal61 : Statement .fatal61 := rfl
theorem fatal62 : Statement .fatal62 := rfl
theorem fatal63 : Statement .fatal63 := rfl
theorem fatal64 : Statement .fatal64 := rfl
theorem fatal65 : Statement .fatal65 := rfl
theorem fatal66 : Statement .fatal66 := rfl
theorem fatal67 : Statement .fatal67 := rfl
theorem fatal68 : Statement .fatal68 := rfl
theorem fatal69 : Statement .fatal69 := rfl
theorem fatal6A : Statement .fatal6A := rfl
theorem fatal6B : Statement .fatal6B := rfl
theorem fatal6C : Statement .fatal6C := rfl
theorem fatal6D : Statement .fatal6D := rfl
theorem fatal6E : Statement .fatal6E := rfl
theorem fatal6F : Statement .fatal6F := rfl
theorem fatal70 : Statement .fatal70 := rfl
theorem fatal71 : Statement .fatal71 := rfl
theorem fatal72 : Statement .fatal72 := rfl
theorem fatal73 : Statement .fatal73 := rfl
theorem fatal74 : Statement .fatal74 := rfl
theorem fatal75 : Statement .fatal75 := rfl
theorem fatal76 : Statement .fatal76 := rfl
theorem fatal77 : Statement .fatal77 := rfl
theorem fatal78 : Statement .fatal78 := rfl
theorem fatal79 : Statement .fatal79 := rfl
theorem fatal7A : Statement .fatal7A := rfl
theorem fatal7B : Statement .fatal7B := rfl
theorem fatal7C : Statement .fatal7C := rfl
theorem fatal7D : Statement .fatal7D := rfl
theorem fatal7E : Statement .fatal7E := rfl
theorem fatal7F : Statement .fatal7F := rfl
theorem addAB : Statement .addAB := rfl
theorem addAC : Statement .addAC := rfl
theorem addAD : Statement .addAD := rfl
theorem addAE : Statement .addAE := rfl
theorem addAH : Statement .addAH := rfl
theorem addAL : Statement .addAL := rfl
theorem fatal86 : Statement .fatal86 := rfl
theorem addAA : Statement .addAA := rfl
theorem fatal88 : Statement .fatal88 := rfl
theorem fatal89 : Statement .fatal89 := rfl
theorem fatal8A : Statement .fatal8A := rfl
theorem fatal8B : Statement .fatal8B := rfl
theorem fatal8C : Statement .fatal8C := rfl
theorem fatal8D : Statement .fatal8D := rfl
theorem fatal8E : Statement .fatal8E := rfl
theorem fatal8F : Statement .fatal8F := rfl
theorem fatal90 : Statement .fatal90 := rfl
theorem fatal91 : Statement .fatal91 := rfl
theorem fatal92 : Statement .fatal92 := rfl
theorem fatal93 : Statement .fatal93 := rfl
theorem fatal94 : Statement .fatal94 := rfl
theorem fatal95 : Statement .fatal95 := rfl
theorem fatal96 : Statement .fatal96 := rfl
theorem fatal97 : Statement .fatal97 := rfl
theorem fatal98 : Statement .fatal98 := rfl
theorem fatal99 : Statement .fatal99 := rfl
theorem fatal9A : Statement .fatal9A := rfl
theorem fatal9B : Statement .fatal9B := rfl
theorem fatal9C : Statement .fatal9C := rfl
theorem fatal9D : Statement .fatal9D := rfl
theorem fatal9E : Statement .fatal9E := rfl
theorem fatal9F : Statement .fatal9F := rfl
theorem fatalA0 : Statement .fatalA0 := rfl
theorem fatalA1 : Statement .fatalA1 := rfl
theorem fatalA2 : Statement .fatalA2 := rfl
theorem fatalA3 : Statement .fatalA3 := rfl
theorem fatalA4 : Statement .fatalA4 := rfl
theorem fatalA5 : Statement .fatalA5 := rfl
theorem fatalA6 : Statement .fatalA6 := rfl
theorem fatalA7 : Statement .fatalA7 := rfl
theorem fatalA8 : Statement .fatalA8 := rfl
theorem fatalA9 : Statement .fatalA9 := rfl
theorem fatalAA : Statement .fatalAA := rfl
theorem fatalAB : Statement .fatalAB := rfl
theorem fatalAC : Statement .fatalAC := rfl
theorem fatalAD : Statement .fatalAD := rfl
theorem fatalAE : Statement .fatalAE := rfl
theorem fatalAF : Statement .fatalAF := rfl
theorem fatalB0 : Statement .fatalB0 := rfl
theorem fatalB1 : Statement .fatalB1 := rfl
theorem fatalB2 : Statement .fatalB2 := rfl
theorem fatalB3 : Statement .fatalB3 := rfl
theorem fatalB4 : Statement .fatalB4 := rfl
theorem fatalB5 : Statement .fatalB5 := rfl
theorem fatalB6 : Statement .fatalB6 := rfl
theorem fatalB7 : Statement .fatalB7 := rfl
theorem cpB : Statement .cpB := rfl
theorem cpC : Statement .cpC := rfl
theorem cpD : Statement .cpD := rfl
theorem cpE : Statement .cpE := rfl
theorem cpH : Statement .cpH := rfl
theorem cpL : Statement .cpL := rfl
theorem fatalBE : Statement .fatalBE := rfl
theorem cpA : Statement .cpA := rfl
theorem fatalC0 : Statement .fatalC0 := rfl
theorem popBC : Statement .popBC := rfl
theorem fatalC2 : Statement .fatalC2 := rfl
theorem fatalC3 : Statement .fatalC3 := rfl
theorem fatalC4 : Statement .fatalC4 := rfl
theorem pushBC : Statement .pushBC := rfl
theorem fatalC6 : Statement .fatalC6 := rfl
theorem fatalC7 : Statement .fatalC7 := rfl
theorem fatalC8 : Statement .fatalC8 := rfl
theorem fatalC9 : Statement .fatalC9 := rfl
theorem fatalCA : Statement .fatalCA := rfl
theorem fatalCB : Statement .fatalCB := rfl
theorem fatalCC : Statement .fatalCC := rfl
theorem fatalCD : Statement .fatalCD := rfl
theorem fatalCE : Statement .fatalCE := rfl
theorem fatalCF : Statement .fatalCF := rfl
theorem fatalD0 : Statement .fatalD0 := rfl
theorem popDE : Statement .popDE := rfl
theorem fatalD2 : Statement .fatalD2 := rfl
theorem fatalD3 : Statement .fatalD3 := rfl
theorem fatalD4 : Statement .fatalD4 := rfl
theorem pushDE : Statement .pushDE := rfl
theorem fatalD6 : Statement .fatalD6 := rfl
theorem fatalD7 : Statement .fatalD7 := rfl
theorem fatalD8 : Statement .fatalD8 := rfl
theorem fatalD9 : Statement .fatalD9 := rfl
theorem fatalDA : Statement .fatalDA := rfl
theorem fatalDB : Statement .fatalDB := rfl
theorem fatalDC : Statement .fatalDC := rfl
theorem fatalDD : Statement .fatalDD := rfl
theorem fatalDE : Statement .fatalDE := rfl
theorem fatalDF : Statement .fatalDF := rfl
theorem fatalE0 : Statement .fatalE0 := rfl
theorem popHL : Statement .popHL := rfl
theorem fatalE2 : Statement .fatalE2 := rfl
theorem fatalE3 : Statement .fatalE3 := rfl
theorem fatalE4 : Statement .fatalE4 := rfl
theorem pushHL : Statement .pushHL := rfl
theorem fatalE6 : Statement .fatalE6 := rfl
theorem fatalE7 : Statement .fatalE7 := rfl
theorem fatalE8 : Statement .fatalE8 := rfl
theorem fatalE9 : Statement .fatalE9 := rfl
theorem fatalEA : Statement .fatalEA := rfl
theorem fatalEB : Statement .fatalEB := rfl
theorem fatalEC : Statement .fatalEC := rfl
theorem fatalED : Statement .fatalED := rfl
theorem fatalEE : Statement .fatalEE := rfl
theorem fatalEF : Statement .fatalEF := rfl
theorem fatalF0 : Statement .fatalF0 := rfl
theorem popAF : Statement .popAF := rfl
theorem fatalF2 : Statement .fatalF2 := rfl
theorem fatalF3 : Statement .fatalF3 := rfl
theorem fatalF4 : Statement .fatalF4 := rfl
theorem pushAF : Statement .pushAF := rfl
theorem fatalF6 : Statement .fatalF6 := rfl
theorem fatalF7 : Statement .fatalF7 := rfl
theorem fatalF8 : Statement .fatalF8 := rfl
theorem fatalF9 : Statement .fatalF9 := rfl
theorem ldAnn (nn : Word) : Statement (.ldAnn nn) := rfl
theorem fatalFB : Statement .fatalFB := rfl
theorem fatalFC : Statement .fatalFC := rfl
theorem fatalFD : Statement .fatalFD := rfl
theorem fatalFE : Statement .fatalFE := rfl
theorem fatalFF : Statement .fatalFF := rfl

end Sys2Proof.Laws.Encoding
end

