-- ==== Sys2Proof/Laws/Step.lean ====
section
/-! SUPPORT. What a step can do: the fetched bytes always decode, a step is one of the handlers' answers, and every handler's
answer is one of six shapes. Invariants follow from these, not from unfolding the step. -/

namespace Sys2Proof.Machine

/-- The bootstrap test in the claims' words (20_memory.md R57). -/
theorem bootExit_eq (s : State) : bootExit s = afterBootTest s := by
  obtain ⟨cpu, ⟨inboot, bootRom, cart, cartLen, wram, eram, zram⟩, lcd, cfg⟩ := s
  by_cases h : cpu.pc = 256#16 <;> cases inboot <;> simp [bootExit, afterBootTest, h]

/-- The fetch of an opcode without operand (30_encoding.md R68). -/
theorem fetchBytes_formatO {s : State} {i : Instr} (h : dispatchEntry (read8 s s.cpu.pc) = .formatO i) :
    fetchBytes s = [read8 s s.cpu.pc] := by
  simp [fetchBytes, h]

/-- The fetch of LD A,(nn): the opcode and two operand bytes (30_encoding.md R70). -/
theorem fetchBytes_formatI16 {s : State} (h : read8 s s.cpu.pc = 0xFA) :
    fetchBytes s = [0xFA, read8 s (s.cpu.pc + 1), read8 s (s.cpu.pc + 2)] := by
  have hd := (dispatchEntry_formatI16 _).2 h
  unfold fetchBytes
  dsimp only
  rw [hd, h]

/-- The first fetched byte is the opcode at pc. -/
theorem fetchBytes_head (s : State) : ∃ operand, fetchBytes s = read8 s s.cpu.pc :: operand := by
  unfold fetchBytes
  dsimp only
  split <;> exact ⟨_, rfl⟩

/-- The opcode at pc, read off the fetched bytes after the bootstrap test. -/
theorem opcode_of_code {s : State} {code operand : List Byte} {op : Byte} (h : fetchBytes (bootExit s) = code)
    (hc : code = op :: operand) : read8 (afterBootTest s) s.cpu.pc = op := by
  obtain ⟨o, ho⟩ := fetchBytes_head (bootExit s)
  rw [← h, ho] at hc
  rw [← bootExit_eq]
  simpa using (List.cons.inj hc).1

/-- The fetch reads exactly the bytes of one instruction: it always decodes, to the instruction those bytes encode. -/
theorem decode_fetchBytes (s : State) : ∃ i, decode (fetchBytes s) = .ok (i, []) ∧ fetchBytes s = encode i := by
  cases h : dispatchEntry (read8 s s.cpu.pc) with
  | formatO i =>
    refine ⟨i, ?_, ?_⟩
    · rw [fetchBytes_formatO h, decode_formatO h]
    · rw [fetchBytes_formatO h, encode_of_dispatchEntry h]
  | formatI16 =>
    have hop := (dispatchEntry_formatI16 _).1 h
    refine ⟨.ldAnn (joinBytes (read8 s (s.cpu.pc + 2)) (read8 s (s.cpu.pc + 1))), ?_, ?_⟩
    · rw [fetchBytes_formatI16 hop]; rfl
    · rw [fetchBytes_formatI16 hop]; simp [encode]

/-- A step of a running machine is the handler of the fetched instruction. -/
theorem step_running {s : State} (h : s.cpu.stopped = false) {i : Instr} {rest : List Byte}
    (hi : decode (fetchBytes (bootExit s)) = .ok (i, rest)) : step s = exec i (pastOpcode (bootExit s)) := by
  simp [step, h, hi]

/-- A stopped machine answers its record. -/
theorem step_stopped {s : State} (h : s.cpu.stopped = true) :
    step s = .fault (.stopped s.cpu.faultOpcode s.cpu.faultPc) := by
  simp [step, h, stoppedAnswer]

/-- The state a completed instruction of cost `m` ends in, its own writes having left `s`. -/
def completed (m : Nat) (s : State) : State := advanceDisplay (4 * m) (addCost m s)

@[simp] theorem completed_cpu (m : Nat) (s : State) : (completed m s).cpu =
    { s.cpu with clkM := s.cpu.clkM + m, clkT := s.cpu.clkT + 4 * m } := rfl
@[simp] theorem completed_bus (m : Nat) (s : State) : (completed m s).bus = s.bus := rfl
@[simp] theorem completed_lcd (m : Nat) (s : State) :
    (completed m s).lcd = displayStep s.cfg.overshootMode (4 * m) s.lcd := rfl
@[simp] theorem completed_cfg (m : Nat) (s : State) : (completed m s).cfg = s.cfg := rfl
@[simp] theorem read8_completed (m : Nat) (s : State) (addr : Word) : read8 (completed m s) addr = read8 s addr := by
  simp [completed]

/-- The state after ADD A,r's writes. -/
def afterAdd (r : Reg8) (s : State) : State :=
  writeF (writeReg s .a (aluResult .add s.cpu.a (readReg s r))) (aluFlags s.cfg.zeroPolarity .add s.cpu.a (readReg s r))

/-- The state after CP r's writes. -/
def afterCp (r : Reg8) (s : State) : State := writeF s (aluFlags s.cfg.zeroPolarity .sub s.cpu.a (readReg s r))

/-- The state after PUSH qq's writes. -/
def afterPush (p : Pair) (s : State) : State := pushByte (pushByte s (pairHigh s p)) (pairLow s p)

/-- The state after POP qq's reads and writes. -/
def afterPop (p : Pair) (s : State) : State :=
  writePair (dropByte (dropByte s)) p (topByte (dropByte s)) (topByte s)

/-- The state after LD A,(nn)'s read and writes. -/
def afterLoad (nn : Word) (s : State) : State := writeReg (advancePc s 2) .a (read8 (advancePc s 2) nn)

/-- The five shared meanings in these terms. -/
theorem addToA_eq (r : Reg8) (s : State) : addToA r s = .next (completed s.cfg.cycAdd (afterAdd r s)) := rfl
theorem compareWithA_eq (r : Reg8) (s : State) : compareWithA r s = .next (completed s.cfg.cycCp (afterCp r s)) := rfl
theorem pushPair_eq (p : Pair) (s : State) : pushPair p s = .next (completed s.cfg.cycPush (afterPush p s)) := rfl
theorem popPair_eq (p : Pair) (s : State) : popPair p s = .next (completed s.cfg.cycPop (afterPop p s)) := rfl
theorem execLdAnn_eq (nn : Word) (s : State) :
    execLdAnn nn s = .next (completed s.cfg.cycLdamm (afterLoad nn s)) := rfl

/-- PUSH's state as two bus writes and the new sp (42_stack.md R105). -/
theorem afterPush_eq (p : Pair) (s : State) : afterPush p s =
    setSp (write8 (write8 s (s.cpu.sp - 1) (pairHigh s p)) (s.cpu.sp - 2) (pairLow s p)) (s.cpu.sp - 2) :=
  pushByte_pushByte s _ _

/-- The state the fatal stop leaves (60_exceptions.md R137). -/
def afterFatal (op : Byte) (s : State) : State :=
  { s with cpu := { s.cpu with stopped := true, faultOpcode := op, faultPc := s.cpu.pc - 1 } }

/-- The opcodes of ADD A,r with their register field (30_encoding.md R69, R71). -/
def addCodes : List (Byte × Reg8) :=
  [(0x80, .b), (0x81, .c), (0x82, .d), (0x83, .e), (0x84, .h), (0x85, .l), (0x87, .a)]

/-- The opcodes of CP r with their register field (R69, R71). -/
def cpCodes : List (Byte × Reg8) :=
  [(0xB8, .b), (0xB9, .c), (0xBA, .d), (0xBB, .e), (0xBC, .h), (0xBD, .l), (0xBF, .a)]

/-- The opcodes of PUSH qq with their pair field (R69, R72). -/
def pushCodes : List (Byte × Pair) := [(0xC5, .bc), (0xD5, .de), (0xE5, .hl), (0xF5, .af)]

/-- The opcodes of POP qq with their pair field (R69, R72). -/
def popCodes : List (Byte × Pair) := [(0xC1, .bc), (0xD1, .de), (0xE1, .hl), (0xF1, .af)]

/-- The opcodes of the six families are admitted. -/
theorem addCodes_admitted : ∀ c ∈ addCodes, c.1 ∈ admittedOpcodes := by decide
theorem cpCodes_admitted : ∀ c ∈ cpCodes, c.1 ∈ admittedOpcodes := by decide
theorem pushCodes_admitted : ∀ c ∈ pushCodes, c.1 ∈ admittedOpcodes := by decide
theorem popCodes_admitted : ∀ c ∈ popCodes, c.1 ∈ admittedOpcodes := by decide

/-- Everything a handler can answer: the shape of the next state, by family, with the bytes of the instruction. -/
inductive Effect (s : State) : List Byte → State → Prop where
  | nop : Effect s [0x00] (completed 1 s)
  | add (op : Byte) (r : Reg8) (h : (op, r) ∈ addCodes) : Effect s [op] (completed s.cfg.cycAdd (afterAdd r s))
  | cp (op : Byte) (r : Reg8) (h : (op, r) ∈ cpCodes) : Effect s [op] (completed s.cfg.cycCp (afterCp r s))
  | push (op : Byte) (p : Pair) (h : (op, p) ∈ pushCodes) : Effect s [op] (completed s.cfg.cycPush (afterPush p s))
  | pop (op : Byte) (p : Pair) (h : (op, p) ∈ popCodes) : Effect s [op] (completed s.cfg.cycPop (afterPop p s))
  | load (nn : Word) : Effect s (encode (.ldAnn nn)) (completed s.cfg.cycLdamm (afterLoad nn s))
  | fatal (op : Byte) (h : op ∉ admittedOpcodes) : Effect s [op] (afterFatal op s)

/-- Every handler answers a next state, of one of the shapes of `Effect`. -/
theorem exec_effect (i : Instr) (s : State) : ∃ t, exec i s = .next t ∧ Effect s (encode i) t := by
  cases i
  case nop => exact ⟨_, rfl, .nop⟩
  case ldAnn nn => exact ⟨_, rfl, .load nn⟩
  case addAB => exact ⟨_, rfl, .add 0x80 .b (by decide)⟩
  case addAC => exact ⟨_, rfl, .add 0x81 .c (by decide)⟩
  case addAD => exact ⟨_, rfl, .add 0x82 .d (by decide)⟩
  case addAE => exact ⟨_, rfl, .add 0x83 .e (by decide)⟩
  case addAH => exact ⟨_, rfl, .add 0x84 .h (by decide)⟩
  case addAL => exact ⟨_, rfl, .add 0x85 .l (by decide)⟩
  case addAA => exact ⟨_, rfl, .add 0x87 .a (by decide)⟩
  case cpB => exact ⟨_, rfl, .cp 0xB8 .b (by decide)⟩
  case cpC => exact ⟨_, rfl, .cp 0xB9 .c (by decide)⟩
  case cpD => exact ⟨_, rfl, .cp 0xBA .d (by decide)⟩
  case cpE => exact ⟨_, rfl, .cp 0xBB .e (by decide)⟩
  case cpH => exact ⟨_, rfl, .cp 0xBC .h (by decide)⟩
  case cpL => exact ⟨_, rfl, .cp 0xBD .l (by decide)⟩
  case cpA => exact ⟨_, rfl, .cp 0xBF .a (by decide)⟩
  case pushBC => exact ⟨_, rfl, .push 0xC5 .bc (by decide)⟩
  case pushDE => exact ⟨_, rfl, .push 0xD5 .de (by decide)⟩
  case pushHL => exact ⟨_, rfl, .push 0xE5 .hl (by decide)⟩
  case pushAF => exact ⟨_, rfl, .push 0xF5 .af (by decide)⟩
  case popBC => exact ⟨_, rfl, .pop 0xC1 .bc (by decide)⟩
  case popDE => exact ⟨_, rfl, .pop 0xD1 .de (by decide)⟩
  case popHL => exact ⟨_, rfl, .pop 0xE1 .hl (by decide)⟩
  case popAF => exact ⟨_, rfl, .pop 0xF1 .af (by decide)⟩
  all_goals exact ⟨_, rfl, .fatal _ (by decide)⟩

/-- Inversion of the step: a next state comes from a running state, and is one of the shapes of `Effect`, for the bytes
fetched at pc after the bootstrap test (named apart, so that a proof can split on `Effect`). -/
theorem step_effect {s t : State} (h : step s = .next t) :
    s.cpu.stopped = false ∧ ∃ code, fetchBytes (bootExit s) = code ∧ Effect (pastOpcode (bootExit s)) code t := by
  cases hs : s.cpu.stopped with
  | true => rw [step_stopped hs] at h; cases h
  | false =>
    obtain ⟨i, hi, hb⟩ := decode_fetchBytes (bootExit s)
    obtain ⟨t', ht', he⟩ := exec_effect i (pastOpcode (bootExit s))
    rw [step_running hs hi, ht'] at h
    cases h
    exact ⟨rfl, _, hb, he⟩

/-- A running machine steps to a next state: it neither faults nor refuses. -/
theorem step_total {s : State} (hs : s.cpu.stopped = false) :
    ∃ t, step s = .next t ∧
      ∃ code, fetchBytes (bootExit s) = code ∧ Effect (pastOpcode (bootExit s)) code t := by
  obtain ⟨i, hi, hb⟩ := decode_fetchBytes (bootExit s)
  obtain ⟨t, ht, he⟩ := exec_effect i (pastOpcode (bootExit s))
  exact ⟨t, by rw [step_running hs hi, ht], _, hb, he⟩

end Sys2Proof.Machine
end

