-- ==== Sys2Proof/Laws/Port.lean ====
section
/-! SUPPORT. The host's moves and the placing of bytes keep every store in canonical form. -/

namespace Sys2Proof.Machine

/-- Reset leaves every store in canonical form, if the two ROM images are. -/
theorem hostReset_storesWf {s : State} (hb : Memory.wf 0x100 s.bus.bootRom = true)
    (hc : Memory.wf s.bus.cartLen s.bus.cart = true) : StoresWf (hostReset s) :=
  ⟨⟨hb, hc, rfl, rfl, rfl⟩, rfl, rfl⟩

/-- The power-on state has every store in canonical form. -/
theorem reset_storesWf : StoresWf State.reset := ⟨⟨rfl, rfl, rfl, rfl, rfl⟩, rfl, rfl⟩

/-- Loading a cartridge keeps the canonical form, whatever the image. -/
theorem loadCartridge_storesWf {s t : State} (h : StoresWf s) (bytes : List Byte)
    (ht : loadCartridge bytes s = .next t) : StoresWf t := by
  obtain ⟨⟨h1, -, h3⟩, h4⟩ := h
  unfold loadCartridge at ht
  split at ht
  · cases ht
    have hw := Memory.wf_ofBytes 0 bytes
    rw [Nat.zero_add] at hw
    exact ⟨⟨h1, hw, h3⟩, h4⟩
  · cases ht

/-- Placing a byte from outside keeps the canonical form. -/
theorem pokeByte_storesWf {s : State} (h : StoresWf s) (addr : Word) (v : Byte) : StoresWf (pokeByte s addr v) := by
  have hin := decodeAddr_inStore s.bus.inboot addr
  have hw := write8_storesWf h addr v
  obtain ⟨⟨h1, h2, h3⟩, h4⟩ := h
  unfold pokeByte
  unfold write8 at hw
  cases hr : decodeAddr s.bus.inboot addr with
  | bootRom off => rw [hr] at hin; exact ⟨⟨Memory.wf_write h1 hin v, h2, h3⟩, h4⟩
  | cart off =>
    exact ⟨⟨h1, Memory.wf_write (Memory.wf_mono (Nat.le_max_left _ _) h2) (Nat.le_max_right _ (off + 1)) v, h3⟩, h4⟩
  | _ => rw [hr] at hw; exact hw

/-- Placing an instruction where the next step fetches keeps the canonical form. -/
theorem withFetchWord_storesWf {s : State} (h : StoresWf s) (nbits w : Nat) : StoresWf (s.withFetchWord nbits w) :=
  pokeByte_storesWf (pokeByte_storesWf (pokeByte_storesWf h _ _) _ _) _ _

end Sys2Proof.Machine
end

