-- ==== Sys2Proof/Machine/Assembly.lean ====
section
/-! DEFINITION. The assembler syntax of 30_encoding.md R77: the line that stands for one instruction. -/

namespace Sys2Proof.Machine

/-- One hexadecimal digit. -/
def hexDigit (d : BitVec 4) : Char :=
  if d.toNat < 10 then Char.ofNat (48 + d.toNat) else Char.ofNat (55 + d.toNat)

/-- `0x` and the two digits of a byte. -/
def hexByte (b : Byte) : String :=
  String.ofList ['0', 'x', hexDigit (b.extractLsb' 4 4), hexDigit (b.extractLsb' 0 4)]

/-- `0x` and the four digits of an address. -/
def hexWord (w : Word) : String :=
  String.ofList ['0', 'x', hexDigit (w.extractLsb' 12 4), hexDigit (w.extractLsb' 8 4), hexDigit (w.extractLsb' 4 4),
    hexDigit (w.extractLsb' 0 4)]

/-- An unimplemented opcode is written as a literal byte, `DB b`. -/
def literalByte (b : Byte) : String := "DB " ++ hexByte b

/-- The assembler line of an instruction (R77). -/
def assembly : Instr → String
  | .nop => "NOP"
  | .fatal01 => literalByte 0x01
  | .fatal02 => literalByte 0x02
  | .fatal03 => literalByte 0x03
  | .fatal04 => literalByte 0x04
  | .fatal05 => literalByte 0x05
  | .fatal06 => literalByte 0x06
  | .fatal07 => literalByte 0x07
  | .fatal08 => literalByte 0x08
  | .fatal09 => literalByte 0x09
  | .fatal0A => literalByte 0x0A
  | .fatal0B => literalByte 0x0B
  | .fatal0C => literalByte 0x0C
  | .fatal0D => literalByte 0x0D
  | .fatal0E => literalByte 0x0E
  | .fatal0F => literalByte 0x0F
  | .fatal10 => literalByte 0x10
  | .fatal11 => literalByte 0x11
  | .fatal12 => literalByte 0x12
  | .fatal13 => literalByte 0x13
  | .fatal14 => literalByte 0x14
  | .fatal15 => literalByte 0x15
  | .fatal16 => literalByte 0x16
  | .fatal17 => literalByte 0x17
  | .fatal18 => literalByte 0x18
  | .fatal19 => literalByte 0x19
  | .fatal1A => literalByte 0x1A
  | .fatal1B => literalByte 0x1B
  | .fatal1C => literalByte 0x1C
  | .fatal1D => literalByte 0x1D
  | .fatal1E => literalByte 0x1E
  | .fatal1F => literalByte 0x1F
  | .fatal20 => literalByte 0x20
  | .fatal21 => literalByte 0x21
  | .fatal22 => literalByte 0x22
  | .fatal23 => literalByte 0x23
  | .fatal24 => literalByte 0x24
  | .fatal25 => literalByte 0x25
  | .fatal26 => literalByte 0x26
  | .fatal27 => literalByte 0x27
  | .fatal28 => literalByte 0x28
  | .fatal29 => literalByte 0x29
  | .fatal2A => literalByte 0x2A
  | .fatal2B => literalByte 0x2B
  | .fatal2C => literalByte 0x2C
  | .fatal2D => literalByte 0x2D
  | .fatal2E => literalByte 0x2E
  | .fatal2F => literalByte 0x2F
  | .fatal30 => literalByte 0x30
  | .fatal31 => literalByte 0x31
  | .fatal32 => literalByte 0x32
  | .fatal33 => literalByte 0x33
  | .fatal34 => literalByte 0x34
  | .fatal35 => literalByte 0x35
  | .fatal36 => literalByte 0x36
  | .fatal37 => literalByte 0x37
  | .fatal38 => literalByte 0x38
  | .fatal39 => literalByte 0x39
  | .fatal3A => literalByte 0x3A
  | .fatal3B => literalByte 0x3B
  | .fatal3C => literalByte 0x3C
  | .fatal3D => literalByte 0x3D
  | .fatal3E => literalByte 0x3E
  | .fatal3F => literalByte 0x3F
  | .fatal40 => literalByte 0x40
  | .fatal41 => literalByte 0x41
  | .fatal42 => literalByte 0x42
  | .fatal43 => literalByte 0x43
  | .fatal44 => literalByte 0x44
  | .fatal45 => literalByte 0x45
  | .fatal46 => literalByte 0x46
  | .fatal47 => literalByte 0x47
  | .fatal48 => literalByte 0x48
  | .fatal49 => literalByte 0x49
  | .fatal4A => literalByte 0x4A
  | .fatal4B => literalByte 0x4B
  | .fatal4C => literalByte 0x4C
  | .fatal4D => literalByte 0x4D
  | .fatal4E => literalByte 0x4E
  | .fatal4F => literalByte 0x4F
  | .fatal50 => literalByte 0x50
  | .fatal51 => literalByte 0x51
  | .fatal52 => literalByte 0x52
  | .fatal53 => literalByte 0x53
  | .fatal54 => literalByte 0x54
  | .fatal55 => literalByte 0x55
  | .fatal56 => literalByte 0x56
  | .fatal57 => literalByte 0x57
  | .fatal58 => literalByte 0x58
  | .fatal59 => literalByte 0x59
  | .fatal5A => literalByte 0x5A
  | .fatal5B => literalByte 0x5B
  | .fatal5C => literalByte 0x5C
  | .fatal5D => literalByte 0x5D
  | .fatal5E => literalByte 0x5E
  | .fatal5F => literalByte 0x5F
  | .fatal60 => literalByte 0x60
  | .fatal61 => literalByte 0x61
  | .fatal62 => literalByte 0x62
  | .fatal63 => literalByte 0x63
  | .fatal64 => literalByte 0x64
  | .fatal65 => literalByte 0x65
  | .fatal66 => literalByte 0x66
  | .fatal67 => literalByte 0x67
  | .fatal68 => literalByte 0x68
  | .fatal69 => literalByte 0x69
  | .fatal6A => literalByte 0x6A
  | .fatal6B => literalByte 0x6B
  | .fatal6C => literalByte 0x6C
  | .fatal6D => literalByte 0x6D
  | .fatal6E => literalByte 0x6E
  | .fatal6F => literalByte 0x6F
  | .fatal70 => literalByte 0x70
  | .fatal71 => literalByte 0x71
  | .fatal72 => literalByte 0x72
  | .fatal73 => literalByte 0x73
  | .fatal74 => literalByte 0x74
  | .fatal75 => literalByte 0x75
  | .fatal76 => literalByte 0x76
  | .fatal77 => literalByte 0x77
  | .fatal78 => literalByte 0x78
  | .fatal79 => literalByte 0x79
  | .fatal7A => literalByte 0x7A
  | .fatal7B => literalByte 0x7B
  | .fatal7C => literalByte 0x7C
  | .fatal7D => literalByte 0x7D
  | .fatal7E => literalByte 0x7E
  | .fatal7F => literalByte 0x7F
  | .addAB => "ADD A,B"
  | .addAC => "ADD A,C"
  | .addAD => "ADD A,D"
  | .addAE => "ADD A,E"
  | .addAH => "ADD A,H"
  | .addAL => "ADD A,L"
  | .fatal86 => literalByte 0x86
  | .addAA => "ADD A,A"
  | .fatal88 => literalByte 0x88
  | .fatal89 => literalByte 0x89
  | .fatal8A => literalByte 0x8A
  | .fatal8B => literalByte 0x8B
  | .fatal8C => literalByte 0x8C
  | .fatal8D => literalByte 0x8D
  | .fatal8E => literalByte 0x8E
  | .fatal8F => literalByte 0x8F
  | .fatal90 => literalByte 0x90
  | .fatal91 => literalByte 0x91
  | .fatal92 => literalByte 0x92
  | .fatal93 => literalByte 0x93
  | .fatal94 => literalByte 0x94
  | .fatal95 => literalByte 0x95
  | .fatal96 => literalByte 0x96
  | .fatal97 => literalByte 0x97
  | .fatal98 => literalByte 0x98
  | .fatal99 => literalByte 0x99
  | .fatal9A => literalByte 0x9A
  | .fatal9B => literalByte 0x9B
  | .fatal9C => literalByte 0x9C
  | .fatal9D => literalByte 0x9D
  | .fatal9E => literalByte 0x9E
  | .fatal9F => literalByte 0x9F
  | .fatalA0 => literalByte 0xA0
  | .fatalA1 => literalByte 0xA1
  | .fatalA2 => literalByte 0xA2
  | .fatalA3 => literalByte 0xA3
  | .fatalA4 => literalByte 0xA4
  | .fatalA5 => literalByte 0xA5
  | .fatalA6 => literalByte 0xA6
  | .fatalA7 => literalByte 0xA7
  | .fatalA8 => literalByte 0xA8
  | .fatalA9 => literalByte 0xA9
  | .fatalAA => literalByte 0xAA
  | .fatalAB => literalByte 0xAB
  | .fatalAC => literalByte 0xAC
  | .fatalAD => literalByte 0xAD
  | .fatalAE => literalByte 0xAE
  | .fatalAF => literalByte 0xAF
  | .fatalB0 => literalByte 0xB0
  | .fatalB1 => literalByte 0xB1
  | .fatalB2 => literalByte 0xB2
  | .fatalB3 => literalByte 0xB3
  | .fatalB4 => literalByte 0xB4
  | .fatalB5 => literalByte 0xB5
  | .fatalB6 => literalByte 0xB6
  | .fatalB7 => literalByte 0xB7
  | .cpB => "CP B"
  | .cpC => "CP C"
  | .cpD => "CP D"
  | .cpE => "CP E"
  | .cpH => "CP H"
  | .cpL => "CP L"
  | .fatalBE => literalByte 0xBE
  | .cpA => "CP A"
  | .fatalC0 => literalByte 0xC0
  | .popBC => "POP BC"
  | .fatalC2 => literalByte 0xC2
  | .fatalC3 => literalByte 0xC3
  | .fatalC4 => literalByte 0xC4
  | .pushBC => "PUSH BC"
  | .fatalC6 => literalByte 0xC6
  | .fatalC7 => literalByte 0xC7
  | .fatalC8 => literalByte 0xC8
  | .fatalC9 => literalByte 0xC9
  | .fatalCA => literalByte 0xCA
  | .fatalCB => literalByte 0xCB
  | .fatalCC => literalByte 0xCC
  | .fatalCD => literalByte 0xCD
  | .fatalCE => literalByte 0xCE
  | .fatalCF => literalByte 0xCF
  | .fatalD0 => literalByte 0xD0
  | .popDE => "POP DE"
  | .fatalD2 => literalByte 0xD2
  | .fatalD3 => literalByte 0xD3
  | .fatalD4 => literalByte 0xD4
  | .pushDE => "PUSH DE"
  | .fatalD6 => literalByte 0xD6
  | .fatalD7 => literalByte 0xD7
  | .fatalD8 => literalByte 0xD8
  | .fatalD9 => literalByte 0xD9
  | .fatalDA => literalByte 0xDA
  | .fatalDB => literalByte 0xDB
  | .fatalDC => literalByte 0xDC
  | .fatalDD => literalByte 0xDD
  | .fatalDE => literalByte 0xDE
  | .fatalDF => literalByte 0xDF
  | .fatalE0 => literalByte 0xE0
  | .popHL => "POP HL"
  | .fatalE2 => literalByte 0xE2
  | .fatalE3 => literalByte 0xE3
  | .fatalE4 => literalByte 0xE4
  | .pushHL => "PUSH HL"
  | .fatalE6 => literalByte 0xE6
  | .fatalE7 => literalByte 0xE7
  | .fatalE8 => literalByte 0xE8
  | .fatalE9 => literalByte 0xE9
  | .fatalEA => literalByte 0xEA
  | .fatalEB => literalByte 0xEB
  | .fatalEC => literalByte 0xEC
  | .fatalED => literalByte 0xED
  | .fatalEE => literalByte 0xEE
  | .fatalEF => literalByte 0xEF
  | .fatalF0 => literalByte 0xF0
  | .popAF => "POP AF"
  | .fatalF2 => literalByte 0xF2
  | .fatalF3 => literalByte 0xF3
  | .fatalF4 => literalByte 0xF4
  | .pushAF => "PUSH AF"
  | .fatalF6 => literalByte 0xF6
  | .fatalF7 => literalByte 0xF7
  | .fatalF8 => literalByte 0xF8
  | .fatalF9 => literalByte 0xF9
  | .ldAnn nn => "LD A,(" ++ hexWord nn ++ ")"
  | .fatalFB => literalByte 0xFB
  | .fatalFC => literalByte 0xFC
  | .fatalFD => literalByte 0xFD
  | .fatalFE => literalByte 0xFE
  | .fatalFF => literalByte 0xFF

end Sys2Proof.Machine
end

