-- ==== Sys2Proof/Tests/Slice0.lean ====
section
/-! SUPPORT. Tests: the refusals of the well-formedness checks, words written out from the spec's encodings, the spec's own
vectors (95_test_vectors.md), each about one step or one operation, and a witness for every statement that has hypotheses. -/

namespace Sys2Proof.Tests

open Sys2Proof Sys2Proof.Machine

-- ---- well-formedness: a term for each check, which the check refuses ----

/-- No opcode byte (30_encoding.md R68). -/
theorem test_wf_no_opcode : codeWellFormed [] = false := by decide

/-- LD A,(nn) with one operand byte, and with three (R68, R70). -/
theorem test_wf_short_load : codeWellFormed [0xFA, 0x20] = false ∧ codeWellFormed [0xFA, 0x20, 0x00, 0x00] = false := by
  decide

/-- A one-byte opcode followed by an operand, admitted and not (R68: 0xCB is one byte too). -/
theorem test_wf_extra_byte : codeWellFormed [0x00, 0x00] = false ∧ codeWellFormed [0xCB, 0x00] = false := by decide

/-- Code that passes. -/
theorem test_wf_accepts : codeWellFormed [0xFA, 0x20, 0x00] = true ∧ codeWellFormed [0xDD] = true := by decide

/-- A cost of 0 is out of range, whichever it is (92_eei_decisions.md, open parameters); the defaults are in range. -/
theorem test_wf_zero_cost :
    { Config.defaults with cycAdd := 0 }.wellFormed = false ∧ { Config.defaults with cycCp := 0 }.wellFormed = false ∧
    { Config.defaults with cycPush := 0 }.wellFormed = false ∧ { Config.defaults with cycPop := 0 }.wellFormed = false ∧
    { Config.defaults with cycLdamm := 0 }.wellFormed = false ∧ Config.defaults.wellFormed = true := by
  decide

/-- Not canonical: a listed 0x00, offsets that fall, a repeated offset, an offset past the store. -/
theorem test_wf_memory :
    Memory.wf 0x100 [(1, 0x00)] = false ∧ Memory.wf 0x100 [(2, 0x11), (1, 0x22)] = false ∧
    Memory.wf 0x100 [(1, 0x11), (1, 0x22)] = false ∧ Memory.wf 0x7F [(0x7F, 0x11)] = false ∧
    Memory.wf 0x7F [(0x00, 0x22), (0x7E, 0x11)] = true := by
  decide

-- ---- decoding: words written out bit by bit from the fields of 30_encoding.md R69 to R72 ----

/-- NOP (R69). -/
theorem test_decode_nop : decode [0b00000000] = .ok (.nop, []) := by decide

/-- ADD A,r: 1 0 0 0 0 r, with r = 000 B, 001 C, 010 D, 011 E, 100 H, 101 L, 111 A (R69, R71). -/
theorem test_decode_add :
    decode [0b10000000] = .ok (.addAB, []) ∧ decode [0b10000001] = .ok (.addAC, []) ∧
    decode [0b10000010] = .ok (.addAD, []) ∧ decode [0b10000011] = .ok (.addAE, []) ∧
    decode [0b10000100] = .ok (.addAH, []) ∧ decode [0b10000101] = .ok (.addAL, []) ∧
    decode [0b10000111] = .ok (.addAA, []) := by
  decide

/-- CP r: 1 0 1 1 1 r (R69, R71). -/
theorem test_decode_cp :
    decode [0b10111000] = .ok (.cpB, []) ∧ decode [0b10111001] = .ok (.cpC, []) ∧
    decode [0b10111010] = .ok (.cpD, []) ∧ decode [0b10111011] = .ok (.cpE, []) ∧
    decode [0b10111100] = .ok (.cpH, []) ∧ decode [0b10111101] = .ok (.cpL, []) ∧
    decode [0b10111111] = .ok (.cpA, []) := by
  decide

/-- PUSH qq: 1 1 qq 0 1 0 1, with qq = 00 BC, 01 DE, 10 HL, 11 AF (R69, R72). -/
theorem test_decode_push :
    decode [0b11000101] = .ok (.pushBC, []) ∧ decode [0b11010101] = .ok (.pushDE, []) ∧
    decode [0b11100101] = .ok (.pushHL, []) ∧ decode [0b11110101] = .ok (.pushAF, []) := by
  decide

/-- POP qq: 1 1 qq 0 0 0 1 (R69, R72). -/
theorem test_decode_pop :
    decode [0b11000001] = .ok (.popBC, []) ∧ decode [0b11010001] = .ok (.popDE, []) ∧
    decode [0b11100001] = .ok (.popHL, []) ∧ decode [0b11110001] = .ok (.popAF, []) := by
  decide

/-- LD A,(nn): 0xFA, the low byte, the high byte (R70); the bytes after it are left over. -/
theorem test_decode_load :
    decode [0b11111010, 0x34, 0x12] = .ok (.ldAnn 0x1234, []) ∧
    decode [0b11111010, 0xFF, 0x00, 0x99] = .ok (.ldAnn 0x00FF, [0x99]) ∧
    decode [0xFA, 0x20] = .error .missingOperand ∧ decode [] = .error .noOpcode := by
  decide

/-- R75: the unimplemented bytes 0x00..0x0F. -/
theorem test_decode_fatal_0x :
    ([0x01, 0x02, 0x03, 0x04, 0x05, 0x06, 0x07, 0x08, 0x09, 0x0A, 0x0B, 0x0C, 0x0D, 0x0E, 0x0F] : List Byte).map (fun op => decode [op]) =
    ([.fatal01, .fatal02, .fatal03, .fatal04, .fatal05, .fatal06, .fatal07, .fatal08,
      .fatal09, .fatal0A, .fatal0B, .fatal0C, .fatal0D, .fatal0E, .fatal0F] : List Instr).map (fun i => .ok (i, [])) := by
  decide

/-- R75: the unimplemented bytes 0x10..0x1F. -/
theorem test_decode_fatal_1x :
    ([0x10, 0x11, 0x12, 0x13, 0x14, 0x15, 0x16, 0x17, 0x18, 0x19, 0x1A, 0x1B, 0x1C, 0x1D, 0x1E, 0x1F] : List Byte).map (fun op => decode [op]) =
    ([.fatal10, .fatal11, .fatal12, .fatal13, .fatal14, .fatal15, .fatal16, .fatal17,
      .fatal18, .fatal19, .fatal1A, .fatal1B, .fatal1C, .fatal1D, .fatal1E, .fatal1F] : List Instr).map (fun i => .ok (i, [])) := by
  decide

/-- R75: the unimplemented bytes 0x20..0x2F. -/
theorem test_decode_fatal_2x :
    ([0x20, 0x21, 0x22, 0x23, 0x24, 0x25, 0x26, 0x27, 0x28, 0x29, 0x2A, 0x2B, 0x2C, 0x2D, 0x2E, 0x2F] : List Byte).map (fun op => decode [op]) =
    ([.fatal20, .fatal21, .fatal22, .fatal23, .fatal24, .fatal25, .fatal26, .fatal27,
      .fatal28, .fatal29, .fatal2A, .fatal2B, .fatal2C, .fatal2D, .fatal2E, .fatal2F] : List Instr).map (fun i => .ok (i, [])) := by
  decide

/-- R75: the unimplemented bytes 0x30..0x3F. -/
theorem test_decode_fatal_3x :
    ([0x30, 0x31, 0x32, 0x33, 0x34, 0x35, 0x36, 0x37, 0x38, 0x39, 0x3A, 0x3B, 0x3C, 0x3D, 0x3E, 0x3F] : List Byte).map (fun op => decode [op]) =
    ([.fatal30, .fatal31, .fatal32, .fatal33, .fatal34, .fatal35, .fatal36, .fatal37,
      .fatal38, .fatal39, .fatal3A, .fatal3B, .fatal3C, .fatal3D, .fatal3E, .fatal3F] : List Instr).map (fun i => .ok (i, [])) := by
  decide

/-- R75: the unimplemented bytes 0x40..0x4F. -/
theorem test_decode_fatal_4x :
    ([0x40, 0x41, 0x42, 0x43, 0x44, 0x45, 0x46, 0x47, 0x48, 0x49, 0x4A, 0x4B, 0x4C, 0x4D, 0x4E, 0x4F] : List Byte).map (fun op => decode [op]) =
    ([.fatal40, .fatal41, .fatal42, .fatal43, .fatal44, .fatal45, .fatal46, .fatal47,
      .fatal48, .fatal49, .fatal4A, .fatal4B, .fatal4C, .fatal4D, .fatal4E, .fatal4F] : List Instr).map (fun i => .ok (i, [])) := by
  decide

/-- R75: the unimplemented bytes 0x50..0x5F. -/
theorem test_decode_fatal_5x :
    ([0x50, 0x51, 0x52, 0x53, 0x54, 0x55, 0x56, 0x57, 0x58, 0x59, 0x5A, 0x5B, 0x5C, 0x5D, 0x5E, 0x5F] : List Byte).map (fun op => decode [op]) =
    ([.fatal50, .fatal51, .fatal52, .fatal53, .fatal54, .fatal55, .fatal56, .fatal57,
      .fatal58, .fatal59, .fatal5A, .fatal5B, .fatal5C, .fatal5D, .fatal5E, .fatal5F] : List Instr).map (fun i => .ok (i, [])) := by
  decide

/-- R75: the unimplemented bytes 0x60..0x6F. -/
theorem test_decode_fatal_6x :
    ([0x60, 0x61, 0x62, 0x63, 0x64, 0x65, 0x66, 0x67, 0x68, 0x69, 0x6A, 0x6B, 0x6C, 0x6D, 0x6E, 0x6F] : List Byte).map (fun op => decode [op]) =
    ([.fatal60, .fatal61, .fatal62, .fatal63, .fatal64, .fatal65, .fatal66, .fatal67,
      .fatal68, .fatal69, .fatal6A, .fatal6B, .fatal6C, .fatal6D, .fatal6E, .fatal6F] : List Instr).map (fun i => .ok (i, [])) := by
  decide

/-- R75: the unimplemented bytes 0x70..0x7F. -/
theorem test_decode_fatal_7x :
    ([0x70, 0x71, 0x72, 0x73, 0x74, 0x75, 0x76, 0x77, 0x78, 0x79, 0x7A, 0x7B, 0x7C, 0x7D, 0x7E, 0x7F] : List Byte).map (fun op => decode [op]) =
    ([.fatal70, .fatal71, .fatal72, .fatal73, .fatal74, .fatal75, .fatal76, .fatal77,
      .fatal78, .fatal79, .fatal7A, .fatal7B, .fatal7C, .fatal7D, .fatal7E, .fatal7F] : List Instr).map (fun i => .ok (i, [])) := by
  decide

/-- R75: the unimplemented bytes 0x80..0x8F. -/
theorem test_decode_fatal_8x :
    ([0x86, 0x88, 0x89, 0x8A, 0x8B, 0x8C, 0x8D, 0x8E, 0x8F] : List Byte).map (fun op => decode [op]) =
    ([.fatal86, .fatal88, .fatal89, .fatal8A, .fatal8B, .fatal8C, .fatal8D, .fatal8E,
      .fatal8F] : List Instr).map (fun i => .ok (i, [])) := by
  decide

/-- R75: the unimplemented bytes 0x90..0x9F. -/
theorem test_decode_fatal_9x :
    ([0x90, 0x91, 0x92, 0x93, 0x94, 0x95, 0x96, 0x97, 0x98, 0x99, 0x9A, 0x9B, 0x9C, 0x9D, 0x9E, 0x9F] : List Byte).map (fun op => decode [op]) =
    ([.fatal90, .fatal91, .fatal92, .fatal93, .fatal94, .fatal95, .fatal96, .fatal97,
      .fatal98, .fatal99, .fatal9A, .fatal9B, .fatal9C, .fatal9D, .fatal9E, .fatal9F] : List Instr).map (fun i => .ok (i, [])) := by
  decide

/-- R75: the unimplemented bytes 0xA0..0xAF. -/
theorem test_decode_fatal_ax :
    ([0xA0, 0xA1, 0xA2, 0xA3, 0xA4, 0xA5, 0xA6, 0xA7, 0xA8, 0xA9, 0xAA, 0xAB, 0xAC, 0xAD, 0xAE, 0xAF] : List Byte).map (fun op => decode [op]) =
    ([.fatalA0, .fatalA1, .fatalA2, .fatalA3, .fatalA4, .fatalA5, .fatalA6, .fatalA7,
      .fatalA8, .fatalA9, .fatalAA, .fatalAB, .fatalAC, .fatalAD, .fatalAE, .fatalAF] : List Instr).map (fun i => .ok (i, [])) := by
  decide

/-- R75: the unimplemented bytes 0xB0..0xBF. -/
theorem test_decode_fatal_bx :
    ([0xB0, 0xB1, 0xB2, 0xB3, 0xB4, 0xB5, 0xB6, 0xB7, 0xBE] : List Byte).map (fun op => decode [op]) =
    ([.fatalB0, .fatalB1, .fatalB2, .fatalB3, .fatalB4, .fatalB5, .fatalB6, .fatalB7,
      .fatalBE] : List Instr).map (fun i => .ok (i, [])) := by
  decide

/-- R75: the unimplemented bytes 0xC0..0xCF. -/
theorem test_decode_fatal_cx :
    ([0xC0, 0xC2, 0xC3, 0xC4, 0xC6, 0xC7, 0xC8, 0xC9, 0xCA, 0xCB, 0xCC, 0xCD, 0xCE, 0xCF] : List Byte).map (fun op => decode [op]) =
    ([.fatalC0, .fatalC2, .fatalC3, .fatalC4, .fatalC6, .fatalC7, .fatalC8, .fatalC9,
      .fatalCA, .fatalCB, .fatalCC, .fatalCD, .fatalCE, .fatalCF] : List Instr).map (fun i => .ok (i, [])) := by
  decide

/-- R75: the unimplemented bytes 0xD0..0xDF. -/
theorem test_decode_fatal_dx :
    ([0xD0, 0xD2, 0xD3, 0xD4, 0xD6, 0xD7, 0xD8, 0xD9, 0xDA, 0xDB, 0xDC, 0xDD, 0xDE, 0xDF] : List Byte).map (fun op => decode [op]) =
    ([.fatalD0, .fatalD2, .fatalD3, .fatalD4, .fatalD6, .fatalD7, .fatalD8, .fatalD9,
      .fatalDA, .fatalDB, .fatalDC, .fatalDD, .fatalDE, .fatalDF] : List Instr).map (fun i => .ok (i, [])) := by
  decide

/-- R75: the unimplemented bytes 0xE0..0xEF. -/
theorem test_decode_fatal_ex :
    ([0xE0, 0xE2, 0xE3, 0xE4, 0xE6, 0xE7, 0xE8, 0xE9, 0xEA, 0xEB, 0xEC, 0xED, 0xEE, 0xEF] : List Byte).map (fun op => decode [op]) =
    ([.fatalE0, .fatalE2, .fatalE3, .fatalE4, .fatalE6, .fatalE7, .fatalE8, .fatalE9,
      .fatalEA, .fatalEB, .fatalEC, .fatalED, .fatalEE, .fatalEF] : List Instr).map (fun i => .ok (i, [])) := by
  decide

/-- R75: the unimplemented bytes 0xF0..0xFF. -/
theorem test_decode_fatal_fx :
    ([0xF0, 0xF2, 0xF3, 0xF4, 0xF6, 0xF7, 0xF8, 0xF9, 0xFB, 0xFC, 0xFD, 0xFE, 0xFF] : List Byte).map (fun op => decode [op]) =
    ([.fatalF0, .fatalF2, .fatalF3, .fatalF4, .fatalF6, .fatalF7, .fatalF8, .fatalF9,
      .fatalFB, .fatalFC, .fatalFD, .fatalFE, .fatalFF] : List Instr).map (fun i => .ok (i, [])) := by
  decide

/-- 0xCB is not a first byte of a longer instruction (R76; vector N6). -/
theorem test_decode_no_longer_form : decode [0xCB, 0x00] = .ok (.fatalCB, [0x00]) := by decide

/-- The table's numbering: a later byte's bits count on from the first byte's. -/
theorem test_decodeTableWord :
    decodeTableWord 24 0x1234FA = some (.ldAnn 0x1234) ∧ decodeTableWord 8 0x1234FA = some (.ldAnn 0x0000) ∧
    decodeTableWord 8 0xBF = some .cpA := by
  decide

/-- The lines of programs P1 and P3 (R77). -/
theorem test_assembly :
    [Instr.ldAnn 0x0020, .pushBC, .addAB, .cpC, .popAF, .nop, .fatalDD].map assembly =
      ["LD A,(0x0020)", "PUSH BC", "ADD A,B", "CP C", "POP AF", "NOP", "DB 0xDD"] := by
  decide +kernel

-- ---- one step: the spec's vectors ----

/-- The start of the vectors of 95_test_vectors.md: reset with BOOT_AT_RESET = 0 and this cartridge. -/
def romState (code : List Byte) : State :=
  State.resetWith { Config.defaults with bootAtReset := false } [] (Memory.ofBytes 0 code) code.length []

/-- The CPU and the bus after one step, if it answers a next state. -/
def stepCpu (s : State) : Option Cpu :=
  match step s with
  | .next t => some t.cpu
  | _ => none

/-- A byte of the bus after one step. -/
def stepByte (s : State) (addr : Word) : Option Byte :=
  match step s with
  | .next t => some (read8 t addr)
  | _ => none

/-- `romState` with its registers set up. -/
def withCpu (code : List Byte) (set : Cpu → Cpu) : State := { romState code with cpu := set (romState code).cpu }

/-- S8: one no-operation. -/
theorem test_nop : stepCpu (romState [0x00]) =
    some { (romState []).cpu with pc := 0x0001, clkM := 1, clkT := 4 } := by decide

/-- N1: a no-operation at 0xFFFF wraps pc to 0x0000. -/
theorem test_nop_wraps : (stepCpu (withCpu [] fun c => { c with pc := 0xFFFF })).map (·.pc) = some 0x0000 := by decide

/-- Table 2.1: A, F and, from the same row, F under the other polarity. -/
theorem test_alu_add :
    ((aluResult .add 0x3A 0xC6, aluFlags .setWhenZero .add 0x3A 0xC6, aluFlags .setWhenNonzero .add 0x3A 0xC6) =
      (0x00, 0xB0, 0x30)) ∧
    ((aluResult .add 0x0F 0x01, aluFlags .setWhenZero .add 0x0F 0x01, aluFlags .setWhenNonzero .add 0x0F 0x01) =
      (0x10, 0x20, 0xA0)) ∧
    ((aluResult .add 0x80 0x80, aluFlags .setWhenZero .add 0x80 0x80, aluFlags .setWhenNonzero .add 0x80 0x80) =
      (0x00, 0x90, 0x10)) ∧
    ((aluResult .add 0xF0 0x20, aluFlags .setWhenZero .add 0xF0 0x20, aluFlags .setWhenNonzero .add 0xF0 0x20) =
      (0x10, 0x10, 0x90)) ∧
    ((aluResult .add 0xFF 0xFF, aluFlags .setWhenZero .add 0xFF 0xFF, aluFlags .setWhenNonzero .add 0xFF 0xFF) =
      (0xFE, 0x30, 0xB0)) := by
  decide

/-- Table 2.2. -/
theorem test_alu_cp :
    ((aluFlags .setWhenZero .sub 0x3C 0x2F, aluFlags .setWhenNonzero .sub 0x3C 0x2F) = (0x60, 0xE0)) ∧
    ((aluFlags .setWhenZero .sub 0x3C 0x3C, aluFlags .setWhenNonzero .sub 0x3C 0x3C) = (0xC0, 0x40)) ∧
    ((aluFlags .setWhenZero .sub 0x3C 0x40, aluFlags .setWhenNonzero .sub 0x3C 0x40) = (0x50, 0xD0)) ∧
    ((aluFlags .setWhenZero .sub 0x00 0xFF, aluFlags .setWhenNonzero .sub 0x00 0xFF) = (0x70, 0xF0)) ∧
    ((aluFlags .setWhenZero .sub 0xFF 0x00, aluFlags .setWhenNonzero .sub 0xFF 0x00) = (0x40, 0xC0)) := by
  decide

/-- Table 2.1, row 3A C6, by each register, and row 88 88 for ADD A,A: the result and F. -/
theorem test_add_registers :
    let af := fun (c : Option Cpu) => c.map fun c => (c.a, c.f)
    af (stepCpu (withCpu [0x80] fun c => { c with a := 0x3A, b := 0xC6 })) = some (0x00, 0xB0) ∧
    af (stepCpu (withCpu [0x81] fun c => { c with a := 0x3A, c := 0xC6 })) = some (0x00, 0xB0) ∧
    af (stepCpu (withCpu [0x82] fun c => { c with a := 0x3A, d := 0xC6 })) = some (0x00, 0xB0) ∧
    af (stepCpu (withCpu [0x83] fun c => { c with a := 0x3A, e := 0xC6 })) = some (0x00, 0xB0) ∧
    af (stepCpu (withCpu [0x84] fun c => { c with a := 0x3A, h := 0xC6 })) = some (0x00, 0xB0) ∧
    af (stepCpu (withCpu [0x85] fun c => { c with a := 0x3A, l := 0xC6 })) = some (0x00, 0xB0) ∧
    af (stepCpu (withCpu [0x87] fun c => { c with a := 0x88 })) = some (0x10, 0x30) := by
  decide

/-- Table 2.2, row 3C 2F, by each register, and row 55 55 for CP A: A is unchanged, F is the row's. -/
theorem test_cp_registers :
    let af := fun (c : Option Cpu) => c.map fun c => (c.a, c.f)
    af (stepCpu (withCpu [0xB8] fun c => { c with a := 0x3C, b := 0x2F })) = some (0x3C, 0x60) ∧
    af (stepCpu (withCpu [0xB9] fun c => { c with a := 0x3C, c := 0x2F })) = some (0x3C, 0x60) ∧
    af (stepCpu (withCpu [0xBA] fun c => { c with a := 0x3C, d := 0x2F })) = some (0x3C, 0x60) ∧
    af (stepCpu (withCpu [0xBB] fun c => { c with a := 0x3C, e := 0x2F })) = some (0x3C, 0x60) ∧
    af (stepCpu (withCpu [0xBC] fun c => { c with a := 0x3C, h := 0x2F })) = some (0x3C, 0x60) ∧
    af (stepCpu (withCpu [0xBD] fun c => { c with a := 0x3C, l := 0x2F })) = some (0x3C, 0x60) ∧
    af (stepCpu (withCpu [0xBF] fun c => { c with a := 0x55 })) = some (0x55, 0xC0) := by
  decide

/-- N3: the fatal stop at 0x0000: no cost, pc one past the opcode. -/
theorem test_fatal : stepCpu (romState [0xDD]) = some { (romState []).cpu with
    pc := 0x0001, stopped := true, faultOpcode := 0xDD, faultPc := 0x0000 } := by decide

/-- N4: the step after it answers the record and changes nothing. -/
theorem test_fatal_stays :
    step (withCpu [0xDD] fun c => { c with stopped := true, faultOpcode := 0xDD }) = .fault (.stopped 0xDD 0x0000) ∧
    hostStep (withCpu [0x00] fun c => { c with stopped := true, faultOpcode := 0xDD, faultPc := 0x0008 }) =
      (withCpu [0x00] fun c => { c with stopped := true, faultOpcode := 0xDD, faultPc := 0x0008 },
        .stopped 0xDD 0x0008) :=
  ⟨rfl, rfl⟩

/-- N5: a fatal opcode in zero-page RAM, at 0xFFFE. -/
theorem test_fatal_in_ram :
    (stepCpu (write8 (withCpu [] fun c => { c with pc := 0xFFFE }) 0xFFFE 0xDD)).map
      (fun c => (c.faultOpcode, c.faultPc, c.pc)) = some (0xDD, 0xFFFE, 0xFFFF) := by decide

/-- K1: PUSH BC at 0xFFFE. -/
theorem test_push :
    let s := withCpu [0xC5] fun c => { c with sp := 0xFFFE, b := 0x12, c := 0x34 }
    stepByte s 0xFFFD = some 0x12 ∧ stepByte s 0xFFFC = some 0x34 ∧
    (stepCpu s).map (fun c => (c.sp, c.clkM)) = some (0xFFFC, 4) := by decide

/-- K2: PUSH BC at sp = 0x0000 loses the high byte; the other three pairs, as K1. -/
theorem test_push_pairs :
    let s := withCpu [0xC5] fun c => { c with b := 0xAA, c := 0xBB }
    let de := withCpu [0xD5] fun c => { c with sp := 0xFFFE, d := 0x12, e := 0x34 }
    let hl := withCpu [0xE5] fun c => { c with sp := 0xFFFE, h := 0x12, l := 0x34 }
    let af := withCpu [0xF5] fun c => { c with sp := 0xFFFE, a := 0x3A, f := 0xB0 }
    (stepByte s 0xFFFF, stepByte s 0xFFFE, (stepCpu s).map (·.sp)) = (some 0x00, some 0xBB, some 0xFFFE) ∧
    (stepByte de 0xFFFD, stepByte de 0xFFFC) = (some 0x12, some 0x34) ∧
    (stepByte hl 0xFFFD, stepByte hl 0xFFFC) = (some 0x12, some 0x34) ∧
    (stepByte af 0xFFFD, stepByte af 0xFFFC) = (some 0x3A, some 0xB0) := by
  decide

/-- K4 and K6: POP BC, and POP AF with the low nibble masked. -/
theorem test_pop :
    let s := write8 (write8 (withCpu [0xC1] fun c => { c with sp := 0xFFFC }) 0xFFFC 0x34) 0xFFFD 0x12
    let af := write8 (write8 (withCpu [0xF1] fun c => { c with sp := 0xFFFC }) 0xFFFC 0xFF) 0xFFFD 0x01
    (stepCpu s).map (fun c => (c.b, c.c, c.sp, c.clkM)) = some (0x12, 0x34, 0xFFFE, 3) ∧
    (stepCpu af).map (fun c => (c.a, c.f, c.sp)) = some (0x01, 0xF0, 0xFFFE) := by
  decide

/-- K5 and K10: POP at the top of the address space wraps; POP HL reads its own byte. -/
theorem test_pop_wraps :
    let s := write8 (withCpu [0x12] fun c => { c with sp := 0xFFFF, pc := 0xFFFE }) 0xFFFE 0xC1
    (stepCpu s).map (fun c => (c.b, c.c, c.sp, c.pc)) = some (0x12, 0x00, 0x0001, 0xFFFF) ∧
    (stepCpu (romState [0xE1, 0x00])).map (fun c => (c.h, c.l, c.sp)) = some (0x00, 0xE1, 0x0002) ∧
    (stepCpu (withCpu [0xD1, 0x81, 0xDD] fun c => { c with sp := 0x0001 })).map (fun c => (c.d, c.e)) =
      some (0xDD, 0x81) := by
  decide

/-- L4: the byte comes from zero-page RAM. -/
theorem test_load :
    (stepCpu (write8 (romState [0xFA, 0x85, 0xFF]) 0xFF85 0x77)).map (fun c => (c.a, c.pc, c.clkT)) =
      some (0x77, 0x0003, 16) := by
  decide

/-- L2 and L6: the operand read wraps at 0xFFFF; the byte comes from the bootstrap ROM while inboot = 1. -/
theorem test_load_boot :
    (stepCpu (write8 (withCpu [0x12, 0x34] fun c => { c with a := 0x55, pc := 0xFFFE }) 0xFFFE 0xFA)).map
      (fun c => (c.a, c.pc)) = some (0x00, 0x0001) ∧
    (stepCpu (State.resetWith Config.defaults (Memory.ofBytes 0 [0xFA, 0x03, 0x00, 0x99])
      (Memory.ofBytes 0 [0, 0, 0, 0x11]) 4 [])).map (fun c => (c.a, c.pc)) = some (0x99, 0x0003) := by
  decide

/-- X2 and M8: the boundary at 0x0100 ends bootstrap mode; a boundary at 0x0101 does not (R57, R158). -/
theorem test_bootstrap_exit :
    let s := fun (pc : Word) => { State.reset with cpu := { State.reset.cpu with pc := pc } }
    ((bootExit (s 0x0100)).bus.inboot, (bootExit (s 0x0101)).bus.inboot, (bootExit (s 0x00FF)).bus.inboot) =
      (false, true, true) := by
  decide

/-- The placed instruction is the one the next step runs. -/
theorem test_withFetchWord :
    (stepCpu (State.reset.withFetchWord 8 0xDD)).map (·.faultOpcode) = some 0xDD ∧
    (stepCpu (State.reset.withFetchWord 24 0x0002FA)).map (·.pc) = some 0x0003 := by
  decide

-- ---- the bus and the display ----

/-- S7, M3, M4, M5: the bus's boundaries. -/
theorem test_bus :
    let s := romState []
    read8 (write8 s 0xFE9F 0x42) 0xFE9F = 0x42 ∧ read8 (write8 s 0xFEA0 0x42) 0xFEA0 = 0x00 ∧
    read8 (write8 s 0xFF80 0x99) 0xFF80 = 0x99 ∧ read8 (write8 s 0xFF00 0x12) 0xFF00 = 0x00 ∧
    read8 (write8 s 0xFDFF 0x77) 0xDDFF = 0x77 ∧ read8 (write8 s 0xFFFF 0x01) 0xFFFF = 0x00 ∧
    read8 (write8 s 0xA123 0x44) 0xA123 = 0x44 ∧ read8 (write8 s 0xC123 0x5A) 0xE123 = 0x5A ∧
    read8 (write8 s 0xDEA0 0x55) 0xFEA0 = 0x00 := by
  decide

/-- S2: read16 in the cartridge, and across the top of the address space. -/
theorem test_read16 : read16 (romState [0x12, 0x34]) 0x0000 = 0x3412 ∧ read16 (romState [0x12, 0x34]) 0xFFFF = 0x1200 := by
  decide

/-- V1 and V6: two tile rows, from the writes of both planes. -/
theorem test_tile_rows :
    (write8 (write8 (romState []) 0x8000 0x3C) 0x8001 0x7E).lcd.tc[0][0].toList = [0, 2, 3, 3, 3, 3, 2, 0] ∧
    (write8 (write8 (romState []) 0x97FE 0x01) 0x97FF 0x03).lcd.tc[383][7].toList = [0, 0, 0, 0, 0, 0, 2, 3] := by
  decide

/-- V4: the odd byte refreshes its own row, not row 0. -/
theorem test_tile_odd_byte :
    (write8 (romState []) 0x8003 0xFF).lcd.tc[0][1].toList = [2, 2, 2, 2, 2, 2, 2, 2] ∧
    (write8 (romState []) 0x8003 0xFF).lcd.tc[0][0].toList = [0, 0, 0, 0, 0, 0, 0, 0] := by
  decide

/-- The R channel of row 0 of the framebuffer after the rasterizer. -/
def redRow (s : State) : List Byte := (renderScan s.lcd).fb[0].toList.map Rgba.r

/-- D3: RESET_SCX = 0xFC wraps from map column 31 to map column 0. -/
theorem test_render_wraps :
    redRow (write8 (write8 { romState [] with lcd := { (romState []).lcd with scx := 0xFC } } 0x8010 0xFF) 0x9800 0x01) =
      List.replicate 4 255 ++ List.replicate 8 192 ++ List.replicate 148 255 := by
  decide +kernel

/-- D4: raw index 1 with the second tile set is tile 257. -/
theorem test_render_tileset :
    (redRow (write8 (write8 (write8 { romState [] with lcd := { (romState []).lcd with tilesetSel := true } }
      0x9010 0xAA) 0x9011 0x55) 0x9800 0x01)).take 8 = [192, 96, 192, 96, 192, 96, 192, 96] := by
  decide +kernel

/-- D5 and D6: the scroll row, and the second map. -/
theorem test_render_scroll_and_map :
    (redRow (write8 (write8 (write8 { romState [] with lcd := { (romState []).lcd with scy := 3 } }
      0x8056 0xF0) 0x8057 0x0F) 0x9800 0x05)).take 8 = [192, 192, 192, 192, 96, 96, 96, 96] ∧
    (redRow (write8 (write8 { romState [] with lcd := { (romState []).lcd with bgmapSel := true } }
      0x8010 0xFF) 0x9C00 0x01)).take 9 = [192, 192, 192, 192, 192, 192, 192, 192, 255] := by
  decide +kernel

/-- T5: sixteen steps of 16 ticks, under CARRY and under DISCARD. -/
theorem test_overshoot :
    let run := fun (m : OvershootMode) => (List.replicate 16 16).foldl (fun d n => displayStep m n d) State.reset.lcd
    ((run .carry).mode, (run .carry).line, (run .carry).modeclock) = (.hblank, 0, 4) ∧
    ((run .discard).mode, (run .discard).line, (run .discard).modeclock) = (.hblank, 0, 0) := by
  decide +kernel

/-- T8: 456 ticks are one line. -/
theorem test_line : let d := displayStep .carry 456 State.reset.lcd
    (d.line, d.mode, d.modeclock) = (1, .oamScan, 0) := by decide +kernel

-- ---- witnesses: for each statement with hypotheses, a state and operands that meet them together ----

/-- A state with any code and any sp, after reset: every store but the cartridge is empty. -/
def stackState (code : List Byte) (sp : Word) : State := withCpu code fun c => { c with sp := sp, a := 0x3A, f := 0xB0 }

/-- The invariant's premises hold of it (all of 10_state.md R40). -/
theorem test_witness_inv (code : List Byte) (sp : Word) : Inv (stackState code sp) where
  flagsLow := (by decide : (0xB0 : Byte) &&& 0x0F = 0)
  clocks := rfl
  lineRange := (by decide : 0 ≤ 153)
  visibleLines := fun _ => (by decide : 0 ≤ 142)
  vblankLines := fun h => by cases h
  modeclockBelow := fun _ => (by decide : 0 < 80)
  tilesCoherent := fun tile row => by
    simp only [stackState, withCpu, romState, State.resetWith, TileCache.zero, Fin.getElem_fin, Vector.getElem_replicate,
      Memory.read_nil]
    decide
  busStores := ⟨rfl, by have := Memory.wf_ofBytes 0 code; rwa [Nat.zero_add] at this, rfl, rfl, rfl⟩
  lcdStores := ⟨rfl, rfl⟩

/-- EncodeOfDecode. -/
theorem test_witness_EncodeOfDecode : decode [0xFA, 0x34, 0x12, 0x99] = .ok (.ldAnn 0x1234, [0x99]) := by decide

/-- StepRunsDecodedInstruction, at pc = 0 and at the top of the address space. -/
theorem test_witness_StepRunsDecodedInstruction :
    (Running (romState [0xFA, 0x20, 0x00]) ∧
      decode [read8 (afterBootTest (romState [0xFA, 0x20, 0x00])) 0x0000,
        read8 (afterBootTest (romState [0xFA, 0x20, 0x00])) (0x0000 + 1),
        read8 (afterBootTest (romState [0xFA, 0x20, 0x00])) (0x0000 + 2)] = .ok (.ldAnn 0x0020, [])) ∧
    (let s := write8 (withCpu [0x12] fun c => { c with pc := 0xFFFE }) 0xFFFE 0xFA;
      Running s ∧ decode [read8 (afterBootTest s) s.cpu.pc, read8 (afterBootTest s) (s.cpu.pc + 1),
        read8 (afterBootTest s) (s.cpu.pc + 2)] = .ok (.ldAnn 0x1200, [])) := by
  unfold Running
  decide

/-- StopIsFinalUntilReset. -/
theorem test_witness_StopIsFinalUntilReset :
    (withCpu [] fun c => { c with stopped := true, faultOpcode := 0xDD }).cpu.stopped = true := rfl

/-- RunningStepAnswersNext. -/
theorem test_witness_RunningStepAnswersNext : Running State.reset := rfl

/-- BootstrapExitSampling: a step at 0x0100 and one just past it. -/
theorem test_witness_BootstrapExitSampling :
    let s := fun (pc : Word) => { State.reset with cpu := { State.reset.cpu with pc := pc } }
    (∃ t, step (s 0x0100) = .next t ∧ t.bus.inboot = false) ∧ (∃ t, step (s 0x0101) = .next t ∧ t.bus.inboot = true) :=
  ⟨⟨_, rfl, rfl⟩, ⟨_, rfl, rfl⟩⟩

/-- FatalHandlerTakesStop, at the ends of the list of R75. -/
theorem test_witness_FatalHandlerTakesStop :
    (encode .fatal01 = [0x01] ∧ (0x01 : Byte) ∉ admittedOpcodes) ∧ (encode .fatal7F = [0x7F] ∧ (0x7F : Byte) ∉ admittedOpcodes) ∧
    (encode .fatal86 = [0x86] ∧ (0x86 : Byte) ∉ admittedOpcodes) ∧ (encode .fatalFF = [0xFF] ∧ (0xFF : Byte) ∉ admittedOpcodes) := by
  decide

/-- FatalStepIsPrecise and UnimplementedOpcodes. -/
theorem test_witness_FatalStepIsPrecise :
    Running (romState [0xDD]) ∧ read8 (afterBootTest (romState [0xDD])) (romState [0xDD]).cpu.pc ∉ admittedOpcodes := by
  unfold Running
  decide

/-- CountersGrowByOpcodeCost, both branches (and RomNeverChanges, DisplayConfigurationFixed, PcOnlyAdvances: a step that
answers). -/
theorem test_witness_CountersGrowByOpcodeCost :
    (∃ t, step (romState [0xDD]) = .next t ∧ t.cpu.stopped = true ∧ t.cpu.clkM = 0) ∧
    (∃ t, step (romState [0xC5]) = .next t ∧ t.cpu.stopped = false ∧ t.cpu.clkM = 4) :=
  ⟨⟨_, rfl, rfl, rfl⟩, ⟨_, rfl, rfl, rfl⟩⟩

/-- AddComputesSum: the first and the last form. -/
theorem test_witness_AddComputesSum :
    ((0x80, .addAB, Cpu.b) ∈ addForms ∧ ∃ t, exec .addAB (romState []) = .next t) ∧
    ((0x87, .addAA, Cpu.a) ∈ addForms ∧ ∃ t, exec .addAA (romState []) = .next t) :=
  ⟨⟨by simp [addForms], _, rfl⟩, ⟨by simp [addForms], _, rfl⟩⟩

/-- CpSetsFlags: the first and the last form. -/
theorem test_witness_CpSetsFlags :
    ((0xB8, .cpB, Cpu.b) ∈ cpForms ∧ ∃ t, exec .cpB (romState []) = .next t) ∧
    ((0xBF, .cpA, Cpu.a) ∈ cpForms ∧ ∃ t, exec .cpA (romState []) = .next t) :=
  ⟨⟨by simp [cpForms], _, rfl⟩, ⟨by simp [cpForms], _, rfl⟩⟩

/-- NopOnlyCosts, the step. -/
theorem test_witness_NopOnlyCosts :
    Running (romState []) ∧ read8 (afterBootTest (romState [])) (romState []).cpu.pc = 0x00 := by
  unfold Running
  decide

/-- PushMemory (and PushWritesPair), with both bytes stored, and with the high byte lost. -/
theorem test_witness_PushMemory :
    (0xC5, .pushBC, Cpu.b, Cpu.c) ∈ pushForms ∧ (0xF5, .pushAF, Cpu.a, Cpu.f) ∈ pushForms ∧
    (∃ t, Inv (stackState [0xC5] 0xFFF0) ∧ exec .pushBC (stackState [0xC5] 0xFFF0) = .next t) ∧
    (∃ t, Inv (stackState [0xF5] 0x0000) ∧ exec .pushAF (stackState [0xF5] 0x0000) = .next t) :=
  ⟨by simp [pushForms], by simp [pushForms], ⟨_, test_witness_inv _ _, rfl⟩, ⟨_, test_witness_inv _ _, rfl⟩⟩

/-- The bounds of the writable ranges, inside and outside (WritableAddr in PushMemory, WriteThenRead, DroppedWrites). -/
theorem test_witness_WritableAddr :
    (WritableAddr 0x8000 ∧ WritableAddr 0xFE9F ∧ WritableAddr 0xFF80 ∧ WritableAddr 0xFFFE) ∧
    (¬WritableAddr 0x7FFF ∧ ¬WritableAddr 0xFEA0 ∧ ¬WritableAddr 0xFF7F ∧ ¬WritableAddr 0xFFFF ∧ ¬WritableAddr 0x0000) := by
  unfold WritableAddr
  decide

/-- The clauses of SameByte at the bounds of the mirror, and two addresses that share no byte. -/
theorem test_witness_SameByte :
    SameByte 0xC000 0xE000 ∧ SameByte 0xDDFF 0xFDFF ∧ SameByte 0xFDFF 0xDDFF ∧ SameByte 0x8000 0x8000 ∧
    ¬SameByte 0xDE00 0xFE00 ∧ ¬SameByte 0xBFFF 0xDFFF := by
  unfold SameByte
  decide

/-- PopFrame (and PopReadsPair): each form answers. -/
theorem test_witness_PopFrame :
    (∃ t, exec .popBC (romState []) = .next t) ∧ (∃ t, exec .popDE (romState []) = .next t) ∧
    (∃ t, exec .popHL (romState []) = .next t) ∧ (∃ t, exec .popAF (romState []) = .next t) ∧
    (0xC1, .popBC, Cpu.b, Cpu.c, 0xFF) ∈ popForms ∧ (0xF1, .popAF, Cpu.a, Cpu.f, 0xF0) ∈ popForms :=
  ⟨⟨_, rfl⟩, ⟨_, rfl⟩, ⟨_, rfl⟩, ⟨_, rfl⟩, by simp [popForms], by simp [popForms]⟩

/-- PushThenPopRestores (and PushThenPopAtZero): the pair AF, in the top of zero-page RAM, and at sp = 0x0000. -/
theorem test_witness_PushThenPopRestores :
    (.pushAF, .popAF, Cpu.a, Cpu.f) ∈ stackPairs ∧
    (∃ t u, Inv (stackState [] 0xFFF0) ∧ exec .pushAF (stackState [] 0xFFF0) = .next t ∧ exec .popAF t = .next u ∧
      WritableAddr ((stackState [] 0xFFF0).cpu.sp - 1) ∧ WritableAddr ((stackState [] 0xFFF0).cpu.sp - 2)) ∧
    (∃ t u, Inv (stackState [] 0x0000) ∧ exec .pushAF (stackState [] 0x0000) = .next t ∧ exec .popAF t = .next u ∧
      (stackState [] 0x0000).cpu.sp = 0x0000) :=
  ⟨by simp [stackPairs], ⟨_, _, test_witness_inv _ _, rfl, rfl, by unfold WritableAddr; decide, by unfold WritableAddr; decide⟩,
    ⟨_, _, test_witness_inv _ _, rfl, rfl, rfl⟩⟩

/-- LoadAbsoluteStep. -/
theorem test_witness_LoadAbsoluteStep :
    let s := romState [0xFA, 0x20, 0x00]
    Running s ∧ read8 (afterBootTest s) s.cpu.pc = 0xFA := by
  unfold Running
  decide

/-- ReadByRegion: the two ends of every row of the table of R46, each with the store and offset it selects. -/
theorem test_witness_ReadByRegion :
    ([0x0000, 0x00FF] : List Word).map (decodeAddr true) = [.bootRom 0x00, .bootRom 0xFF] ∧
    ([0x0000, 0x00FF] : List Word).map (decodeAddr false) = [.cart 0x00, .cart 0xFF] ∧
    ([0x0100, 0x7FFF] : List Word).map (decodeAddr true) = [.cart 0x100, .cart 0x7FFF] ∧
    ([0x8000, 0x9FFF] : List Word).map (decodeAddr true) = [.vram 0, .vram 0x1FFF] ∧
    ([0xA000, 0xBFFF] : List Word).map (decodeAddr true) = [.eram 0, .eram 0x1FFF] ∧
    ([0xC000, 0xDFFF] : List Word).map (decodeAddr true) = [.wram 0, .wram 0x1FFF] ∧
    ([0xE000, 0xFDFF] : List Word).map (decodeAddr true) = [.wram 0, .wram 0x1DFF] ∧
    ([0xFE00, 0xFE9F] : List Word).map (decodeAddr true) = [.oam 0, .oam 0x9F] ∧
    ([0xFEA0, 0xFEFF] : List Word).map (decodeAddr true) = [.unmapped, .unmapped] ∧
    ([0xFF00, 0xFF7F, 0xFFFF] : List Word).map (decodeAddr true) = [.reserved, .reserved, .reserved] ∧
    ([0xFF80, 0xFFFE] : List Word).map (decodeAddr true) = [.zram 0, .zram 0x7E] := by
  decide

/-- UnmappedReadsZero: the bounds of its three ranges. -/
theorem test_witness_UnmappedReadsZero :
    (0xFEA0 ≤ (0xFEA0 : Word).toNat ∧ (0xFEFF : Word).toNat ≤ 0xFEFF) ∧
    (0xFF00 ≤ (0xFF00 : Word).toNat ∧ (0xFF7F : Word).toNat ≤ 0xFF7F) ∧
    (read8 (romState [0x12]) 0xFEFF, read8 (romState [0x12]) 0xFF7F, read8 (romState [0x12]) 0xFFFF) =
      (0x00, 0x00, 0x00) := by
  decide

/-- PlainRamRegions: the bounds of its three ranges, with the offset each selects. -/
theorem test_witness_PlainRamRegions :
    (((0xA000 : Word) &&& 0x1FFF).toNat, ((0xBFFF : Word) &&& 0x1FFF).toNat) = (0x0000, 0x1FFF) ∧
    (((0xFE00 : Word) &&& 0x00FF).toNat, ((0xFE9F : Word) &&& 0x00FF).toNat) = (0x00, 0x9F) ∧
    ((0xFF80 : Word).toNat - 0xFF80, (0xFFFE : Word).toNat - 0xFF80) = (0x00, 0x7E) := by
  decide

/-- WriteThenRead: a writable address of a state that meets the invariant, with an address in each clause. -/
theorem test_witness_WriteThenRead :
    Inv (stackState [] 0x0000) ∧ WritableAddr 0xC123 ∧ SameByte 0xC123 0xE123 ∧ ¬SameByte 0xC123 0xC124 :=
  ⟨test_witness_inv _ _, by unfold WritableAddr; decide, by unfold SameByte; decide, by unfold SameByte; decide⟩

/-- WorkingRamMirror: the bounds of its two clauses. -/
theorem test_witness_WorkingRamMirror :
    ((0xC000 : Nat) ≤ (0xC000 : Word).toNat ∧ (0xDDFF : Word).toNat ≤ 0xDDFF) ∧
    ((0xDE00 : Nat) ≤ (0xDE00 : Word).toNat ∧ (0xDFFF : Word).toNat ≤ 0xDFFF) ∧
    ((0xDDFF : Word) + 0x2000 = 0xFDFF ∧ (0xDE00 : Word) + 0x2000 = 0xFE00) := by
  decide

/-- VramWriteRefreshesRow: the bounds of video memory and of the tile data in it. -/
theorem test_witness_VramWriteRefreshesRow :
    (0x8000 ≤ (0x8000 : Word).toNat ∧ (0x9FFF : Word).toNat ≤ 0x9FFF) ∧
    ((0x97FF : Word).toNat - 0x8000 < 0x1800 ∧ ¬((0x9800 : Word).toNat - 0x8000 < 0x1800)) := by
  decide

/-- RenderScanClosedForm: the first line and the last row, with a pixel of that row and of another. -/
theorem test_witness_RenderScanClosedForm :
    (State.reset.lcd.line < 144 ∧ 0 < 144 ∧ 159 < 160) ∧
    ({ State.reset.lcd with line := 143 }.line < 144 ∧ 143 < 144 ∧ (142 : Nat) ≠ 143) := by decide

/-- OnlyTotalTicksMatter: two splits of one total. -/
theorem test_witness_OnlyTotalTicksMatter :
    ([16, 64, 172] : List Nat) ≠ [] ∧ ([252] : List Nat) ≠ [] ∧ ([16, 64, 172] : List Nat).sum = [252].sum := by decide

/-- DiscardDropsOvershoot: one tick short of the threshold, and at it. -/
theorem test_witness_DiscardDropsOvershoot :
    State.reset.lcd.modeclock + 79 < threshold State.reset.lcd.mode ∧
    threshold State.reset.lcd.mode ≤ State.reset.lcd.modeclock + 80 := by
  decide

/-- ModeTransitions: a display for each clause, at the lines where the clauses meet. -/
theorem test_witness_ModeTransitions :
    let d := fun (m : Mode) (line : Nat) => { State.reset.lcd with mode := m, line := line }
    (d .oamScan 0).mode = .oamScan ∧ (d .vramScan 0).mode = .vramScan ∧
    ((d .hblank 142).mode = .hblank ∧ (d .hblank 142).line + 1 = 143) ∧
    ((d .hblank 141).mode = .hblank ∧ (d .hblank 141).line + 1 ≠ 143) ∧
    ((d .vblank 153).mode = .vblank ∧ 153 < (d .vblank 153).line + 1) ∧
    ((d .vblank 152).mode = .vblank ∧ (d .vblank 152).line + 1 ≤ 153) := by
  decide

/-- FrameTiming and OnePresentPerFrame. -/
theorem test_witness_FrameTiming :
    State.reset.lcd.mode = .oamScan ∧ State.reset.lcd.line = 0 ∧ State.reset.lcd.modeclock = 0 := by decide

/-- PresentsOnlyAppended: a step that completes and one that takes the fatal stop. -/
theorem test_witness_PresentsOnlyAppended :
    (∃ t, step (romState [0x00]) = .next t ∧ t.cpu.stopped = false) ∧
    (∃ t, step (romState [0xDD]) = .next t ∧ t.cpu.stopped = true) :=
  ⟨⟨_, rfl, rfl⟩, ⟨_, rfl, rfl⟩⟩

/-- LastRowNeverDrawn and InvariantKept. -/
theorem test_witness_InvariantKept : Inv (stackState [0xC5] 0xFFFE) ∧ ∃ t, step (stackState [0xC5] 0xFFFE) = .next t :=
  ⟨test_witness_inv _ _, _, rfl⟩

/-- DisplayHiddenFromProgram: two states that differ in the display's timing and scroll. -/
theorem test_witness_DisplayHiddenFromProgram :
    let s := romState [0xC5]
    let s' := { s with lcd := { s.lcd with mode := .hblank, modeclock := 200, line := 7, scx := 4 } }
    s.cpu = s'.cpu ∧ s.bus = s'.bus ∧ s.cfg = s'.cfg ∧ s.lcd.vram = s'.lcd.vram ∧ s.lcd.oam = s'.lcd.oam ∧
      (∃ t, step s = .next t) ∧ (∃ t, step s' = .next t) :=
  ⟨rfl, rfl, rfl, rfl, rfl, ⟨_, rfl⟩, ⟨_, rfl⟩⟩

/-- InvariantAfterHostReset. -/
theorem test_witness_InvariantAfterHostReset :
    Memory.wf 0x100 (romState [0xDD, 0x00, 0x3A]).bus.bootRom = true ∧
    Memory.wf (romState [0xDD, 0x00, 0x3A]).bus.cartLen (romState [0xDD, 0x00, 0x3A]).bus.cart = true := by
  decide

/-- FlagWritesAreMasked: a step that writes F and one that does not. -/
theorem test_witness_FlagWritesAreMasked :
    (∃ t, step (withCpu [0xF1] fun c => { c with f := 0x0F }) = .next t ∧ t.cpu.f = 0xF0) ∧
    (∃ t, step (withCpu [0x00] fun c => { c with f := 0x0F }) = .next t ∧ t.cpu.f = 0x0F) :=
  ⟨⟨_, rfl, rfl⟩, ⟨_, rfl, rfl⟩⟩

/-- PcOnlyAdvances and OnlyStackMovesSp: a step in each of their cases. -/
theorem test_witness_OnlyStackMovesSp :
    (∃ t, step (romState [0xFA, 0x00, 0x00]) = .next t ∧ t.cpu.pc = 0x0003 ∧ t.cpu.sp = 0x0000) ∧
    (∃ t, step (romState [0xC5]) = .next t ∧ t.cpu.pc = 0x0001 ∧ t.cpu.sp = 0xFFFE) ∧
    (∃ t, step (romState [0xC1]) = .next t ∧ t.cpu.pc = 0x0001 ∧ t.cpu.sp = 0x0002) ∧
    (∃ t, step (romState [0xDD]) = .next t ∧ t.cpu.pc = 0x0001 ∧ t.cpu.sp = 0x0000) :=
  ⟨⟨_, rfl, rfl, rfl⟩, ⟨_, rfl, rfl, rfl⟩, ⟨_, rfl, rfl, rfl⟩, ⟨_, rfl, rfl, rfl⟩⟩

/-- OnlyPushWritesMemory. -/
theorem test_witness_OnlyPushWritesMemory :
    (∃ t, step (romState [0xC1]) = .next t) ∧
    read8 (afterBootTest (romState [0xC1])) (romState [0xC1]).cpu.pc ∉ pushForms.map (·.1) :=
  ⟨⟨_, rfl⟩, by decide⟩

/-- FirstFetchAfterReset: both values of BOOT_AT_RESET. -/
theorem test_witness_FirstFetchAfterReset :
    State.reset.cfg.bootAtReset = true ∧ (romState [0x5A]).cfg.bootAtReset = false := by decide

/-- CartridgeLoadVerbatim: the bounds of the addresses it speaks of. -/
theorem test_witness_CartridgeLoadVerbatim :
    0x0100 ≤ (0x0100 : Word).toNat ∧ (0x7FFF : Word).toNat ≤ 0x7FFF := by decide

/-- NoCartridgeLoadDuringRun: after a step that completes, and after one that takes the fatal stop. -/
theorem test_witness_NoCartridgeLoadDuringRun :
    (romState [0x00]).cfg.wellFormed = true ∧ (∃ t, step (romState [0x00]) = .next t) ∧
    (romState [0xDD]).cfg.wellFormed = true ∧ (∃ t, step (romState [0xDD]) = .next t) :=
  ⟨by decide, ⟨_, rfl⟩, by decide, ⟨_, rfl⟩⟩

end Sys2Proof.Tests
end

section
/-! PROOFS. The power-on state and the reset port (00_scope.md R12; 70_reset_and_hazards.md R150). -/

namespace Sys2Proof.Machine

/-- Reset computes each field from the five things it keeps, and a reset state already holds those five. -/
@[simp] theorem hostReset_resetWith (cfg : Config) (bootRom cart : Memory) (cartLen : Nat)
    (presents : List FrameBuffer) :
    hostReset (State.resetWith cfg bootRom cart cartLen presents) =
      State.resetWith cfg bootRom cart cartLen presents := rfl

/-- Reset leaves the parameters it is given. -/
@[simp] theorem State.resetWith_cfg (cfg : Config) (bootRom cart : Memory) (cartLen : Nat)
    (presents : List FrameBuffer) :
    (State.resetWith cfg bootRom cart cartLen presents).cfg = cfg := rfl

/-- Settles O56: the power-on state is an instance of `State.resetWith`, which reset fixes whatever the parameters, and
the table of R12 is the definition of `Config.defaults` field by field. -/
theorem powerOnState : Obligations.PowerOnState := by
  unfold Obligations.PowerOnState
  have reset_fixed : hostReset State.reset = State.reset := hostReset_resetWith Config.defaults [] [] 0 []
  have reset_cfg : State.reset.cfg = Config.defaults := State.resetWith_cfg Config.defaults [] [] 0 []
  exact ⟨reset_fixed, reset_cfg, rfl⟩

end Sys2Proof.Machine
end

section
/-! PROOFS. The state (10_state.md): what no step changes (R30, R34 to R36), the writers of F, pc and sp (R20, R25, R26), and
the invariant of R40. A step is the bootstrap test and then a handler (`step_effect_opcode`); each fact is proved of the
handlers' effects, by family, and carried to the step. -/

namespace Sys2Proof.Machine

-- ---- what each family does to the CPU ----

@[simp] theorem afterAdd_cpu (r : Reg8) (s : State) : (afterAdd r s).cpu =
    { s.cpu with
      a := aluResult .add s.cpu.a (readReg s r)
      f := aluFlags s.cfg.zeroPolarity .add s.cpu.a (readReg s r) &&& 0xF0 } := rfl

@[simp] theorem afterCp_cpu (r : Reg8) (s : State) : (afterCp r s).cpu =
    { s.cpu with f := aluFlags s.cfg.zeroPolarity .sub s.cpu.a (readReg s r) &&& 0xF0 } := rfl

@[simp] theorem afterPush_cpu (p : Pair) (s : State) : (afterPush p s).cpu = { s.cpu with sp := s.cpu.sp - 2 } := by
  simp [afterPush_eq]

@[simp] theorem afterLoad_cpu (nn : Word) (s : State) : (afterLoad nn s).cpu =
    { s.cpu with a := read8 s nn, pc := s.cpu.pc + 2 } := by
  simp [afterLoad]

@[simp] theorem afterFatal_cpu (op : Byte) (s : State) : (afterFatal op s).cpu =
    { s.cpu with stopped := true, faultOpcode := op, faultPc := s.cpu.pc - 1 } := rfl

@[simp] theorem afterPop_cpu_pc (p : Pair) (s : State) : (afterPop p s).cpu.pc = s.cpu.pc := by simp [afterPop]

@[simp] theorem afterPop_cpu_sp (p : Pair) (s : State) : (afterPop p s).cpu.sp = s.cpu.sp + 2 := by
  simp [afterPop, BitVec.add_assoc]

@[simp] theorem afterPop_cpu_clkM (p : Pair) (s : State) : (afterPop p s).cpu.clkM = s.cpu.clkM := by simp [afterPop]

@[simp] theorem afterPop_cpu_clkT (p : Pair) (s : State) : (afterPop p s).cpu.clkT = s.cpu.clkT := by simp [afterPop]

/-- The mask of R20 clears the low nibble. -/
theorem masked_low_nibble (v : Byte) : v &&& 0xF0 &&& 0x0F = 0 := by
  rw [BitVec.and_assoc]
  exact BitVec.and_zero

/-- A pair write leaves F, or writes it masked (42_stack.md R114). -/
theorem writePair_cpu_f (s : State) (p : Pair) (hi lo : Byte) :
    (writePair s p hi lo).cpu.f = s.cpu.f ∨ (writePair s p hi lo).cpu.f &&& 0x0F = 0 := by
  cases p with
  | af => exact .inr (masked_low_nibble lo)
  | bc | de | hl => exact .inl rfl

/-- Every family leaves F or writes it masked (R20). -/
theorem Effect.cpu_f {s t : State} {code : List Byte} (h : Effect s code t) :
    t.cpu.f = s.cpu.f ∨ t.cpu.f &&& 0x0F = 0 := by
  cases h with
  | nop | load | push | fatal => exact .inl (by simp)
  | add => exact .inr (by simpa using masked_low_nibble _)
  | cp => exact .inr (by simpa using masked_low_nibble _)
  | pop _ p => exact writePair_cpu_f (dropByte (dropByte s)) p _ _

/-- The opcode of LD A,(nn) is no opcode of another family. -/
theorem opcode_ne_load_of_mem : (∀ c ∈ addCodes, c.1 ≠ 0xFA) ∧ (∀ c ∈ cpCodes, c.1 ≠ 0xFA) ∧
    (∀ c ∈ pushCodes, c.1 ≠ 0xFA) ∧ (∀ c ∈ popCodes, c.1 ≠ 0xFA) := by decide

/-- Past the opcode, only LD A,(nn) advances pc, over its two operand bytes (R25). -/
theorem Effect.cpu_pc {s t : State} {op : Byte} {operand : List Byte} (h : Effect s (op :: operand) t) :
    t.cpu.pc = if op = 0xFA then s.cpu.pc + 2 else s.cpu.pc := by
  obtain ⟨hadd, hcp, hpush, hpop⟩ := opcode_ne_load_of_mem
  cases h with
  | nop => simp
  | add _ r h => rw [if_neg (hadd _ h)]; simp
  | cp _ r h => rw [if_neg (hcp _ h)]; simp
  | push _ p h => rw [if_neg (hpush _ h)]; simp
  | pop _ p h => rw [if_neg (hpop _ h)]; simp
  | load nn => simp
  | fatal _ h =>
    have hne : op ≠ 0xFA := fun he => h (he ▸ by decide)
    rw [if_neg hne, afterFatal_cpu]

/-- The claims list the opcodes of PUSH and of POP. -/
theorem pushCodes_pushForms : ∀ c ∈ pushCodes, c.1 ∈ pushForms.map (·.1) := by decide
theorem popCodes_popForms : ∀ c ∈ popCodes, c.1 ∈ popForms.map (·.1) := by decide

/-- No opcode of ADD or CP is one of PUSH or POP, and none of POP is one of PUSH. -/
theorem stack_opcodes_apart :
    (∀ c ∈ addCodes, c.1 ∉ pushForms.map (·.1) ∧ c.1 ∉ popForms.map (·.1)) ∧
    (∀ c ∈ cpCodes, c.1 ∉ pushForms.map (·.1) ∧ c.1 ∉ popForms.map (·.1)) ∧
    (∀ c ∈ popCodes, c.1 ∉ pushForms.map (·.1)) := by decide

/-- An opcode that is not admitted is none of PUSH or POP. -/
theorem not_stack_of_not_admitted {op : Byte} (h : op ∉ admittedOpcodes) :
    op ∉ pushForms.map (·.1) ∧ op ∉ popForms.map (·.1) := by
  have hstack : ∀ op ∈ pushForms.map (·.1) ++ popForms.map (·.1), op ∈ admittedOpcodes := by decide
  exact ⟨fun hp => h (hstack op (List.mem_append_left _ hp)), fun hp => h (hstack op (List.mem_append_right _ hp))⟩

/-- Only PUSH and POP move sp (R26). -/
theorem Effect.cpu_sp {s t : State} {op : Byte} {operand : List Byte} (h : Effect s (op :: operand) t) :
    t.cpu.sp = if op ∈ pushForms.map (·.1) then s.cpu.sp - 2
      else if op ∈ popForms.map (·.1) then s.cpu.sp + 2 else s.cpu.sp := by
  obtain ⟨hadd, hcp, hpop⟩ := stack_opcodes_apart
  cases h with
  | nop => rfl
  | load nn => rw [if_neg (by decide), if_neg (by decide)]; simp
  | add _ r h => rw [if_neg (hadd _ h).1, if_neg (hadd _ h).2]; simp
  | cp _ r h => rw [if_neg (hcp _ h).1, if_neg (hcp _ h).2]; simp
  | push _ p h => rw [if_pos (pushCodes_pushForms _ h)]; simp
  | pop _ p h => rw [if_neg (hpop _ h), if_pos (popCodes_popForms _ h)]; simp
  | fatal _ h =>
    obtain ⟨hno_push, hno_pop⟩ := not_stack_of_not_admitted h
    rw [if_neg hno_push, if_neg hno_pop, afterFatal_cpu]

/-- An effect keeps one machine cycle at four ticks (R27): it adds a cost and four times it, the fatal stop nothing. -/
theorem Effect.cpu_clocks {s t : State} {code : List Byte} (h : Effect s code t)
    (hs : s.cpu.clkT = 4 * s.cpu.clkM) : t.cpu.clkT = 4 * t.cpu.clkM := by
  cases h with
  | fatal => simpa using hs
  | nop | add | cp | push | pop | load => simp [hs, Nat.mul_add]

-- ---- from the handlers to the step ----

/-- The inversion of the step with its opcode named: after the bootstrap test and one advance of pc, the step is an effect
of the opcode read at pc. -/
theorem step_effect_opcode {s t : State} (h : step s = .next t) :
    ∃ operand, Effect (pastOpcode (bootExit s)) (read8 (afterBootTest s) s.cpu.pc :: operand) t := by
  obtain ⟨-, code, hcode, he⟩ := step_effect h
  obtain ⟨operand, hop⟩ := fetchBytes_head (bootExit s)
  have hread : read8 (bootExit s) (bootExit s).cpu.pc = read8 (afterBootTest s) s.cpu.pc := by
    rw [bootExit_cpu, bootExit_eq]
  rw [← hcode, hop, hread] at he
  exact ⟨operand, he⟩

/-- Settles O51, by the families' effects on F. -/
theorem flagWritesAreMasked : Obligations.FlagWritesAreMasked := by
  unfold Obligations.FlagWritesAreMasked
  intro s t h
  obtain ⟨operand, he⟩ := step_effect_opcode h
  simpa using he.cpu_f

/-- Settles O52: one advance past the opcode, and LD A,(nn)'s two. -/
theorem pcOnlyAdvances : Obligations.PcOnlyAdvances := by
  unfold Obligations.PcOnlyAdvances
  intro s t h
  obtain ⟨operand, he⟩ := step_effect_opcode h
  rw [he.cpu_pc]
  simp [BitVec.add_assoc]

/-- Settles O53, by the families' effects on sp. -/
theorem onlyStackMovesSp : Obligations.OnlyStackMovesSp := by
  unfold Obligations.OnlyStackMovesSp
  intro s t h
  obtain ⟨operand, he⟩ := step_effect_opcode h
  simpa only [pastOpcode_cpu, bootExit_cpu] using he.cpu_sp

-- ---- what no step changes ----

/-- Two states that differ in the CPU alone. -/
structure SameOutsideCpu (s t : State) : Prop where
  bus : t.bus = s.bus
  lcd : t.lcd = s.lcd
  cfg : t.cfg = s.cfg

/-- What an effect can do outside the CPU: nothing, the completion of an instruction alone, or PUSH's two bus writes and
its completion. -/
theorem Effect.outsideCpu {s t : State} {code : List Byte} (h : Effect s code t) :
    SameOutsideCpu s t ∨ (∃ m u, t = completed m u ∧ SameOutsideCpu s u) ∨
      ∃ m u addr addr' v v', t = completed m u ∧ SameOutsideCpu (write8 (write8 s addr v) addr' v') u := by
  cases h with
  | fatal => exact .inl ⟨rfl, rfl, rfl⟩
  | nop => exact .inr (.inl ⟨_, _, rfl, rfl, rfl, rfl⟩)
  | add _ r => exact .inr (.inl ⟨_, afterAdd r s, rfl, rfl, rfl, rfl⟩)
  | cp _ r => exact .inr (.inl ⟨_, afterCp r s, rfl, rfl, rfl, rfl⟩)
  | pop _ p => exact .inr (.inl ⟨_, afterPop p s, rfl, by simp [afterPop], by simp [afterPop], by simp [afterPop]⟩)
  | load nn => exact .inr (.inl ⟨_, afterLoad nn s, rfl, rfl, rfl, rfl⟩)
  | push _ p =>
    exact .inr (.inr ⟨_, afterPush p s, s.cpu.sp - 1, s.cpu.sp - 2, pairHigh s p, pairLow s p, rfl,
      by rw [afterPush_eq, setSp_bus], by rw [afterPush_eq, setSp_lcd], by rw [afterPush_eq, setSp_cfg]⟩)

/-- A transitive relation of states holds across every step if it holds across the bootstrap test, any change of the CPU, a
bus write and the completion of an instruction: a step is made of these. With `R s t` as `P s → P t`, `P` is an
invariant. -/
theorem step_rel {R : State → State → Prop} (trans : ∀ {s t u}, R s t → R t u → R s u)
    (boot : ∀ s, R s (bootExit s)) (cpu : ∀ {s t}, SameOutsideCpu s t → R s t) (write : ∀ s addr v, R s (write8 s addr v))
    (completion : ∀ m s, R s (completed m s)) {s t : State} (h : step s = .next t) : R s t := by
  obtain ⟨-, code, -, he⟩ := step_effect h
  have hfetch : R s (pastOpcode (bootExit s)) := trans (boot s) (cpu ⟨rfl, rfl, rfl⟩)
  refine trans hfetch ?_
  obtain hsame | ⟨m, u, rfl, hu⟩ | ⟨m, u, addr, addr', v, v', rfl, hu⟩ := he.outsideCpu
  · exact cpu hsame
  · exact trans (cpu hu) (completion m u)
  · exact trans (trans (trans (write _ addr v) (write _ addr' v')) (cpu hu)) (completion m u)

/-- The ROM images (R30) and the parameters (00_scope.md R12). -/
def romPart (s : State) : Memory × Memory × Nat × Config := (s.bus.bootRom, s.bus.cart, s.bus.cartLen, s.cfg)

/-- The display's configuration registers (R34 to R36). -/
def configPart (d : Display) : Byte × Byte × Bool × Bool × Palette :=
  (d.scx, d.scy, d.bgmapSel, d.tilesetSel, d.palette)

theorem step_romPart {s t : State} (h : step s = .next t) : romPart t = romPart s :=
  step_rel (R := fun s t => romPart t = romPart s)
    (trans := fun hst htu => htu.trans hst)
    (boot := fun s => by simp [romPart])
    (cpu := fun ⟨hbus, _, hcfg⟩ => by rw [romPart, hbus, hcfg, romPart])
    (write := fun s addr v => by simp [romPart])
    (completion := fun m s => by simp [romPart]) h

theorem step_configPart {s t : State} (h : step s = .next t) : configPart t.lcd = configPart s.lcd :=
  step_rel (R := fun s t => configPart t.lcd = configPart s.lcd)
    (trans := fun hst htu => htu.trans hst)
    (boot := fun s => by rw [bootExit_lcd])
    (cpu := fun ⟨_, hlcd, _⟩ => by rw [hlcd])
    (write := fun s addr v => by rw [write8_lcd, configPart, configPart])
    (completion := fun m s => by simp [configPart]) h

/-- Settles O34: what a step is made of changes neither the ROM images nor the parameters. -/
theorem romNeverChanges : Obligations.RomNeverChanges := by
  unfold Obligations.RomNeverChanges
  intro s t h
  simpa only [romPart, Prod.mk.injEq] using step_romPart h

/-- Settles O47: the display's configuration registers have no writer but reset. -/
theorem displayConfigurationFixed : Obligations.DisplayConfigurationFixed := by
  unfold Obligations.DisplayConfigurationFixed
  intro s t h
  simpa only [configPart, Prod.mk.injEq] using step_configPart h

-- ---- the invariant of R40 ----

/-- Items 4 and 5: the line is in the range of the display's mode. -/
structure LineFitsMode (d : Display) : Prop where
  range : d.line ≤ 153
  visible : d.mode ≠ .vblank → d.line ≤ 142
  vblank : d.mode = .vblank → 143 ≤ d.line

/-- The line sequence of 50_display.md R119 to R123 keeps the line in the range of its mode. -/
theorem transition_lineFitsMode {d : Display} (h : LineFitsMode d) : LineFitsMode (transition d) := by
  obtain ⟨hrange, hvisible, hvblank⟩ := h
  unfold transition
  cases hm : d.mode with
  | oamScan => exact ⟨hrange, fun _ => hvisible (by simp [hm]), fun h => by cases h⟩
  | vramScan =>
    have hline : (renderScan d).line ≤ 142 := by simpa using hvisible (by simp [hm])
    exact ⟨hline.trans (by decide), fun _ => hline, fun h => by cases h⟩
  | hblank =>
    have hline : d.line ≤ 142 := hvisible (by simp [hm])
    by_cases hlast : d.line + 1 = 143
    · simp only [leaveHblank, if_pos hlast]
      exact ⟨by simp [present, hlast], fun h => absurd rfl h, fun _ => hlast.ge⟩
    · simp only [leaveHblank, if_neg hlast]
      have hnext : d.line + 1 ≤ 142 := by omega
      exact ⟨hnext.trans (by decide), fun _ => hnext, fun h => by cases h⟩
  | vblank =>
    have hline : 143 ≤ d.line := hvblank hm
    by_cases hlast : d.line + 1 > 153
    · simp only [leaveVblankLine, if_pos hlast]
      exact ⟨Nat.zero_le 153, fun _ => Nat.zero_le 142, fun h => by cases h⟩
    · simp only [leaveVblankLine, if_neg hlast]
      exact ⟨not_lt.1 hlast, fun h => absurd hm h, fun _ => hline.trans (Nat.le_succ _)⟩

theorem displayStep_lineFitsMode (m : OvershootMode) (ticks : Nat) {d : Display} (h : LineFitsMode d) :
    LineFitsMode (displayStep m ticks d) :=
  displayStep_induct (P := LineFitsMode) (fun _ _ ⟨hrange, hvisible, hvblank⟩ => ⟨hrange, hvisible, hvblank⟩)
    (fun _ => transition_lineFitsMode) m ticks d h

/-- Item 6: under CARRY the loop of 50_display.md R117 runs until the mode clock is below the threshold. -/
theorem displayStep_carry_modeclock_lt (ticks : Nat) (d : Display) :
    (displayStep .carry ticks d).modeclock < threshold (displayStep .carry ticks d).mode :=
  carryLoop_modeclock_lt _ _ le_rfl

/-- The part of the invariant that is not about the CPU: items 4 to 7 and the canonical form of the stores. -/
structure InvOutsideCpu (s : State) : Prop where
  line : LineFitsMode s.lcd
  modeclock : s.cfg.overshootMode = .carry → s.lcd.modeclock < threshold s.lcd.mode
  tiles : TilesCoherent s.lcd
  stores : StoresWf s

theorem inv_iff (s : State) :
    Inv s ↔ s.cpu.f &&& 0x0F = 0 ∧ s.cpu.clkT = 4 * s.cpu.clkM ∧ InvOutsideCpu s := by
  constructor
  · rintro ⟨hf, hclk, hrange, hvisible, hvblank, hmc, htc, hbus, hlcd⟩
    exact ⟨hf, hclk, ⟨hrange, hvisible, hvblank⟩, hmc, htc, hbus, hlcd⟩
  · rintro ⟨hf, hclk, ⟨hrange, hvisible, hvblank⟩, hmc, htc, hbus, hlcd⟩
    exact ⟨hf, hclk, hrange, hvisible, hvblank, hmc, htc, hbus, hlcd⟩

theorem InvOutsideCpu.of_same {s t : State} (h : SameOutsideCpu s t) (hs : InvOutsideCpu s) : InvOutsideCpu t := by
  obtain ⟨hbus, hlcd, hcfg⟩ := h
  obtain ⟨hline, hmc, htc, hst⟩ := hs
  refine ⟨hlcd ▸ hline, ?_, hlcd ▸ htc, ?_⟩
  · rwa [hlcd, hcfg]
  · rwa [StoresWf, hbus, hlcd]

theorem InvOutsideCpu.bootExit {s : State} (h : InvOutsideCpu s) : InvOutsideCpu (bootExit s) where
  line := by simpa using h.line
  modeclock := by simpa using h.modeclock
  tiles := by simpa using h.tiles
  stores := by simpa [StoresWf] using h.stores

theorem InvOutsideCpu.write8 {s : State} (h : InvOutsideCpu s) (addr : Word) (v : Byte) :
    InvOutsideCpu (write8 s addr v) where
  line := by
    obtain ⟨hrange, hvisible, hvblank⟩ := h.line
    rw [write8_lcd]
    exact ⟨hrange, hvisible, hvblank⟩
  modeclock := by
    rw [write8_lcd, write8_cfg]
    exact h.modeclock
  tiles := write8_coherent h.tiles addr v
  stores := write8_storesWf h.stores addr v

theorem InvOutsideCpu.completed {s : State} (h : InvOutsideCpu s) (m : Nat) : InvOutsideCpu (completed m s) where
  line := displayStep_lineFitsMode _ _ h.line
  modeclock hcarry := by
    rw [completed_cfg] at hcarry
    rw [completed_lcd, hcarry]
    exact displayStep_carry_modeclock_lt _ _
  tiles := by simpa [TilesCoherent] using h.tiles
  stores := by simpa [StoresWf] using h.stores

theorem step_invOutsideCpu {s t : State} (h : step s = .next t) : InvOutsideCpu s → InvOutsideCpu t :=
  step_rel (R := fun s t => InvOutsideCpu s → InvOutsideCpu t)
    (trans := fun hst htu hs => htu (hst hs))
    (boot := fun _ => InvOutsideCpu.bootExit)
    (cpu := InvOutsideCpu.of_same)
    (write := fun _ addr v hs => hs.write8 addr v)
    (completion := fun m _ hs => hs.completed m) h

/-- Settles O48: F by its masked writes, the counters by the cost, and the rest by what a step does outside the CPU. -/
theorem invariantKept : Obligations.InvariantKept := by
  unfold Obligations.InvariantKept
  intro s t hs h
  obtain ⟨hf, hclk, hout⟩ := (inv_iff s).1 hs
  obtain ⟨operand, he⟩ := step_effect_opcode h
  have hf' : t.cpu.f &&& 0x0F = 0 := by
    rcases flagWritesAreMasked s t h with hsame | hmasked
    · rw [hsame, hf]
    · exact hmasked
  have hclk' : t.cpu.clkT = 4 * t.cpu.clkM := he.cpu_clocks (by simpa using hclk)
  exact (inv_iff t).2 ⟨hf', hclk', step_invOutsideCpu h hout⟩

/-- The tile cache of zeros is the decode of a VRAM of zeros (R37). -/
theorem TileCache.zero_coherent (tile : Fin 384) (row : Fin 8) : TileCache.zero[tile][row] = decodeRow 0 0 := by
  have hrow : (Vector.replicate 8 0 : TileRow) = decodeRow 0 0 := by decide
  rw [← hrow]
  simp [TileCache.zero]

/-- Settles O50: reset fixes every part of the invariant but the two ROM images, whose form is the hypothesis. -/
theorem invariantAfterHostReset : Obligations.InvariantAfterHostReset := by
  unfold Obligations.InvariantAfterHostReset
  intro s hboot hcart
  have hline : LineFitsMode (hostReset s).lcd :=
    ⟨Nat.zero_le 153, fun _ => Nat.zero_le 142, fun hvblank => by cases hvblank⟩
  have hclock : (hostReset s).lcd.modeclock < threshold (hostReset s).lcd.mode := (by decide : 0 < 80)
  have hout : InvOutsideCpu (hostReset s) :=
    ⟨hline, fun _ => hclock, TileCache.zero_coherent, hostReset_storesWf hboot hcart⟩
  exact (inv_iff _).2 ⟨BitVec.zero_and, rfl, hout⟩

/-- Settles O49: the power-on state is its own reset state, with two empty ROM images. -/
theorem invariantAtReset : Obligations.InvariantAtReset := by
  unfold Obligations.InvariantAtReset
  have hreset : hostReset State.reset = State.reset := hostReset_resetWith Config.defaults [] [] 0 []
  rw [← hreset]
  exact invariantAfterHostReset State.reset rfl rfl

end Sys2Proof.Machine
end

section
/-! PROOFS. The address space (20_memory.md). The address decoder is a table of ranges: its rows are inverted once
(`decodeAddr_selectedBy`), a write followed by a read is settled on regions, and the claims about addresses follow. -/

namespace Sys2Proof.Machine

-- ---- which addresses select a region ----

/-- The addresses that select a region: its rows in the table of 20_memory.md R46. Below 0x0100 two
regions share the addresses; the bootstrap bit chooses between them. -/
def Region.SelectedBy (a : Nat) : Region → Prop
  | .bootRom off => a < 0x100 ∧ off = a
  | .cart off => a < 0x8000 ∧ off = a
  | .vram off => 0x8000 ≤ a ∧ a < 0xA000 ∧ off = a % 0x2000
  | .eram off => 0xA000 ≤ a ∧ a < 0xC000 ∧ off = a % 0x2000
  | .wram off => 0xC000 ≤ a ∧ a < 0xFE00 ∧ off = a % 0x2000
  | .oam off => 0xFE00 ≤ a ∧ a < 0xFEA0 ∧ off = a % 0x100
  | .unmapped => 0xFEA0 ≤ a ∧ a < 0xFF00
  | .reserved => 0xFF00 ≤ a ∧ a < 0xFF80 ∨ a = 0xFFFF
  | .zram off => 0xFF80 ≤ a ∧ a < 0xFFFF ∧ off = a - 0xFF80

theorem decodeAddr_selectedBy (b : Bool) (a : Word) : (decodeAddr b a).SelectedBy a.toNat := by
  have := a.isLt
  unfold decodeAddr
  dsimp only
  repeat' split
  all_goals simp only [Region.SelectedBy, and_true]
  all_goals omega

/-- The regions whose bytes a write changes: the last column of the table of R46. -/
def Region.Writable : Region → Prop
  | .vram _ | .eram _ | .wram _ | .oam _ | .zram _ => True
  | .bootRom _ | .cart _ | .unmapped | .reserved => False

theorem decodeAddr_writable (b : Bool) (a : Word) : (decodeAddr b a).Writable ↔ WritableAddr a := by
  have hsel := decodeAddr_selectedBy b a
  unfold WritableAddr
  cases hr : decodeAddr b a with
  | bootRom | cart | unmapped | reserved =>
    rw [hr] at hsel
    simp only [Region.SelectedBy] at hsel
    simp only [Region.Writable, false_iff]
    omega
  | vram | eram | wram | oam | zram =>
    rw [hr] at hsel
    simp only [Region.SelectedBy] at hsel
    simp only [Region.Writable, true_iff]
    omega

/-- The working-RAM mirror (R51): addresses of one byte select one region. -/
theorem decodeAddr_of_sameByte {a a' : Word} (h : SameByte a a') (b : Bool) : decodeAddr b a' = decodeAddr b a := by
  obtain rfl | ⟨hlo, hhi, hmirror⟩ | ⟨hlo, hhi, hmirror⟩ := h
  · rfl
  all_goals
    have hoff : a'.toNat % 0x2000 = a.toNat % 0x2000 := by omega
    rw [decodeAddr_wram b a (by omega) (by omega), decodeAddr_wram b a' (by omega) (by omega), hoff]

/-- Two addresses of one writable region share a byte: no offset of a store has a third address. -/
theorem sameByte_of_decodeAddr {b : Bool} {a a' : Word} (ha : WritableAddr a) (h : decodeAddr b a' = decodeAddr b a) :
    SameByte a a' := by
  have hsel := decodeAddr_selectedBy b a
  have hsel' := decodeAddr_selectedBy b a'
  have hw := (decodeAddr_writable b a).2 ha
  rw [h] at hsel'
  rw [SameByte, ← BitVec.toNat_inj]
  cases hr : decodeAddr b a with
  | bootRom | cart | unmapped | reserved => rw [hr] at hw; exact hw.elim
  | vram | eram | wram | oam | zram =>
    rw [hr] at hsel hsel'
    simp only [Region.SelectedBy] at hsel hsel'
    omega

-- ---- a write, then a read, on regions ----

theorem writeRegion_of_not_writable (s : State) (v : Byte) {r : Region} (h : ¬r.Writable) : writeRegion s v r = s := by
  cases r with
  | bootRom | cart | unmapped | reserved => rfl
  | vram | eram | wram | oam | zram => exact absurd trivial h

theorem readRegion_writeRegion_same {s : State} (hs : StoresWf s) (v : Byte) {r : Region} (h : r.Writable) :
    readRegion (writeRegion s v r) r = v := by
  obtain ⟨⟨-, -, hwram, heram, hzram⟩, hvram, hoam⟩ := hs
  cases r with
  | bootRom | cart | unmapped | reserved => exact h.elim
  | vram off => rw [writeRegion, readRegion, vramRead, vramWrite_vram]; exact Memory.read_write_same hvram off v
  | eram off => exact Memory.read_write_same heram off v
  | wram off => exact Memory.read_write_same hwram off v
  | oam off => exact Memory.read_write_same hoam off v
  | zram off => exact Memory.read_write_same hzram off v

/-- A write to one store leaves the others alone, and of its own store every other offset. -/
theorem readRegion_writeRegion_other (s : State) (v : Byte) {r r' : Region} (h : r' ≠ r) :
    readRegion (writeRegion s v r) r' = readRegion s r' := by
  cases r with
  | bootRom | cart | unmapped | reserved => rfl
  | vram off =>
    cases r' with
    | vram off' =>
      rw [writeRegion, readRegion, vramRead, vramWrite_vram]
      exact Memory.read_write_other (by simpa using h) v
    | oam off' => simp [writeRegion, readRegion, oamRead]
    | _ => rfl
  | eram off =>
    cases r' with
    | eram off' => exact Memory.read_write_other (by simpa using h) v
    | _ => rfl
  | wram off =>
    cases r' with
    | wram off' => exact Memory.read_write_other (by simpa using h) v
    | _ => rfl
  | oam off =>
    cases r' with
    | oam off' => exact Memory.read_write_other (by simpa using h) v
    | _ => rfl
  | zram off =>
    cases r' with
    | zram off' => exact Memory.read_write_other (by simpa using h) v
    | _ => rfl

-- ---- a write, then a read, on addresses ----

/-- Settles O29: an address outside the writable ranges selects a region that no write changes. -/
theorem droppedWrites : Obligations.DroppedWrites := by
  unfold Obligations.DroppedWrites
  intro s addr v h
  exact writeRegion_of_not_writable s v ((decodeAddr_writable _ addr).not.2 h)

theorem read8_write8_sameByte {s : State} (hs : StoresWf s) {a a' : Word} (v : Byte) (ha : WritableAddr a)
    (h : SameByte a a') : read8 (write8 s a v) a' = v := by
  rw [read8, write8_bus_inboot, decodeAddr_of_sameByte h]
  exact readRegion_writeRegion_same hs v ((decodeAddr_writable _ a).2 ha)

theorem read8_write8_other (s : State) {a a' : Word} (v : Byte) (ha : WritableAddr a) (h : ¬SameByte a a') :
    read8 (write8 s a v) a' = read8 s a' := by
  have hne : decodeAddr s.bus.inboot a' ≠ decodeAddr s.bus.inboot a := fun heq => h (sameByte_of_decodeAddr ha heq)
  rw [read8, write8_bus_inboot]
  exact readRegion_writeRegion_other s v hne

/-- Settles O30: of the invariant, the canonical form of the stores is what a read back needs. -/
theorem writeThenRead : Obligations.WriteThenRead := by
  unfold Obligations.WriteThenRead
  intro s a a' v hs ha
  have hwf : StoresWf s := ⟨hs.busStores, hs.lcdStores⟩
  exact ⟨read8_write8_sameByte hwf v ha, read8_write8_other s v ha⟩

/-- Settles O31: 0x2000 above 0xC000..0xDDFF is the mirror of the same byte; 0x2000 above 0xDE00..0xDFFF lies past the
mirror's end. -/
theorem workingRamMirror : Obligations.WorkingRamMirror := by
  unfold Obligations.WorkingRamMirror
  constructor
  · intro s a v hlo hhi
    have hmirror : (a + 0x2000).toNat = a.toNat + 0x2000 := by bv_omega
    have hsame : SameByte a (a + 0x2000) := .inr (.inl ⟨hlo, by omega, hmirror⟩)
    rw [read8, write8, decodeAddr_of_sameByte hsame]
    exact ⟨rfl, rfl⟩
  · intro s a v hlo hhi
    have habove : (a + 0x2000).toNat = a.toNat + 0x2000 := by bv_omega
    have hother : ¬SameByte a (a + 0x2000) := by
      rw [SameByte, ← BitVec.toNat_inj]
      omega
    exact read8_write8_other s v (.inl ⟨by omega, by omega⟩) hother

-- ---- the rows of R46: what an address reads and what a write to it stores ----

/-- The offsets of R46 are masks of the address. -/
theorem and_1FFF_toNat (a : Word) : (a &&& 0x1FFF).toNat = a.toNat % 0x2000 :=
  Nat.and_two_pow_sub_one_eq_mod a.toNat 13

theorem and_00FF_toNat (a : Word) : (a &&& 0x00FF).toNat = a.toNat % 0x100 :=
  Nat.and_two_pow_sub_one_eq_mod a.toNat 8

section Rows
variable (s : State) {a : Word} (v : Byte)

theorem read8_bootRom (h : a.toNat ≤ 0x00FF) (hboot : s.bus.inboot = true) :
    read8 s a = Memory.read s.bus.bootRom a.toNat := by
  rw [read8, hboot, decodeAddr_boot a (by omega), readRegion]

theorem read8_cart (h : a.toNat ≤ 0x7FFF) (hboot : ¬(a.toNat ≤ 0x00FF ∧ s.bus.inboot = true)) :
    read8 s a = cartByte s.bus a.toNat := by
  by_cases hlow : a.toNat < 0x100
  · have hout : s.bus.inboot = false := by simpa [Nat.le_of_lt_succ hlow] using hboot
    rw [read8, hout, decodeAddr_low a hlow, readRegion]
  · rw [read8, decodeAddr_cart _ a (by omega) (by omega), readRegion]

theorem read8_vram (h : 0x8000 ≤ a.toNat) (h' : a.toNat ≤ 0x9FFF) :
    read8 s a = Memory.read s.lcd.vram (a &&& 0x1FFF).toNat := by
  rw [read8, decodeAddr_vram _ a h (by omega), readRegion, vramRead, and_1FFF_toNat]

theorem read8_eram (h : 0xA000 ≤ a.toNat) (h' : a.toNat ≤ 0xBFFF) :
    read8 s a = Memory.read s.bus.eram (a &&& 0x1FFF).toNat := by
  rw [read8, decodeAddr_eram _ a h (by omega), readRegion, and_1FFF_toNat]

theorem read8_wram (h : 0xC000 ≤ a.toNat) (h' : a.toNat ≤ 0xFDFF) :
    read8 s a = Memory.read s.bus.wram (a &&& 0x1FFF).toNat := by
  rw [read8, decodeAddr_wram _ a h (by omega), readRegion, and_1FFF_toNat]

theorem read8_oam (h : 0xFE00 ≤ a.toNat) (h' : a.toNat ≤ 0xFE9F) :
    read8 s a = Memory.read s.lcd.oam (a &&& 0x00FF).toNat := by
  rw [read8, decodeAddr_oam _ a h (by omega), readRegion, oamRead, and_00FF_toNat]

theorem read8_zram (h : 0xFF80 ≤ a.toNat) (h' : a.toNat ≤ 0xFFFE) :
    read8 s a = Memory.read s.bus.zram (a.toNat - 0xFF80) := by
  rw [read8, decodeAddr_zram _ a h (by omega), readRegion]

/-- Above OAM, an address outside zero-page RAM has no store (R53, R54, R56). -/
theorem read8_storeless (h : 0xFEA0 ≤ a.toNat) (h' : ¬(0xFF80 ≤ a.toNat ∧ a.toNat ≤ 0xFFFE)) : read8 s a = 0x00 := by
  have hsel := decodeAddr_selectedBy s.bus.inboot a
  rw [read8]
  cases hr : decodeAddr s.bus.inboot a with
  | unmapped | reserved => rfl
  | bootRom | cart | vram | eram | wram | oam | zram =>
    rw [hr] at hsel
    simp only [Region.SelectedBy] at hsel
    omega

theorem write8_vram (h : 0x8000 ≤ a.toNat) (h' : a.toNat ≤ 0x9FFF) :
    write8 s a v = { s with lcd := vramWrite s.lcd (a.toNat - 0x8000) v } := by
  have hoff : a.toNat % 0x2000 = a.toNat - 0x8000 := by omega
  rw [write8, decodeAddr_vram _ a h (by omega), writeRegion, hoff]

theorem write8_eram (h : 0xA000 ≤ a.toNat) (h' : a.toNat ≤ 0xBFFF) : write8 s a v =
    { s with bus := { s.bus with eram := Memory.write s.bus.eram (a &&& 0x1FFF).toNat v } } := by
  rw [write8, decodeAddr_eram _ a h (by omega), writeRegion, and_1FFF_toNat]

theorem write8_oam (h : 0xFE00 ≤ a.toNat) (h' : a.toNat ≤ 0xFE9F) : write8 s a v =
    { s with lcd := { s.lcd with oam := Memory.write s.lcd.oam (a &&& 0x00FF).toNat v } } := by
  rw [write8, decodeAddr_oam _ a h (by omega), writeRegion, oamWrite, and_00FF_toNat]

theorem write8_zram (h : 0xFF80 ≤ a.toNat) (h' : a.toNat ≤ 0xFFFE) : write8 s a v =
    { s with bus := { s.bus with zram := Memory.write s.bus.zram (a.toNat - 0xFF80) v } } := by
  rw [write8, decodeAddr_zram _ a h (by omega), writeRegion]

end Rows

/-- Settles O26, row by row. -/
theorem readByRegion : Obligations.ReadByRegion := by
  unfold Obligations.ReadByRegion
  intro s addr
  dsimp only
  split_ifs with hboot hcart hlen hvram heram hwram hoam hzram
  · exact read8_bootRom s hboot.1 hboot.2
  · rw [read8_cart s hcart hboot, cartByte, if_pos hlen]
  · rw [read8_cart s hcart hboot, cartByte, if_neg hlen]
  · exact read8_vram s (by omega) hvram
  · exact read8_eram s (by omega) heram
  · exact read8_wram s (by omega) hwram
  · exact read8_oam s (by omega) hoam
  · exact read8_zram s hzram.1 hzram.2
  · exact read8_storeless s (by omega) hzram

/-- Settles O28: the rows of the three ranges. -/
theorem plainRamRegions : Obligations.PlainRamRegions := by
  unfold Obligations.PlainRamRegions
  intro s addr v
  exact ⟨fun h h' => ⟨read8_eram s h h', write8_eram s v h h'⟩, fun h h' => ⟨read8_oam s h h', write8_oam s v h h'⟩,
    fun h h' => ⟨read8_zram s h h', write8_zram s v h h'⟩⟩

/-- Settles O27: the three ranges lie above OAM, outside zero-page RAM, and are not writable. -/
theorem unmappedReadsZero : Obligations.UnmappedReadsZero := by
  unfold Obligations.UnmappedReadsZero
  intro s addr v h
  rw [← BitVec.toNat_inj, show (0xFFFF : Word).toNat = 0xFFFF from rfl] at h
  have hnot_writable : ¬WritableAddr addr := by
    unfold WritableAddr
    omega
  exact ⟨read8_storeless s (by omega) (by omega), droppedWrites s addr v hnot_writable⟩

-- ---- video memory ----

/-- The tile cache after a video-memory write: the row of the written byte is the decode of both current bytes
(50_display.md R127). -/
theorem vramWrite_tc (d : Display) (off : Nat) (v : Byte) (tile : Fin 384) (row : Fin 8) :
    (vramWrite d off v).tc[tile][row] =
      if off < 0x1800 ∧ off / 16 = tile.val ∧ off / 2 % 8 = row.val then
        decodeRow (Memory.read (vramWrite d off v).vram (16 * tile.val + 2 * row.val))
          (Memory.read (vramWrite d off v).vram (16 * tile.val + 2 * row.val + 1))
      else d.tc[tile][row] := by
  rw [vramWrite_vram]
  exact updateTile_tc off { d with vram := Memory.write d.vram off v } tile row tile.isLt row.isLt

/-- Settles O36: the write is the DisplayController's `vram_write` at the offset of the address. -/
theorem vramWriteRefreshesRow : Obligations.VramWriteRefreshesRow := by
  unfold Obligations.VramWriteRefreshesRow
  intro s addr v tile row h h'
  dsimp only
  rw [write8_vram s v h h']
  generalize addr.toNat - 0x8000 = off
  refine ⟨vramWrite_vram s.lcd off v, vramWrite_tc s.lcd off v tile row, ?_⟩
  rw [vramWrite_vram]
  exact vramWrite_eq s.lcd off v

-- ---- 16-bit accesses ----

/-- The second address of a 16-bit access, mod 2^16 (R44, R45). -/
theorem add_one_eq_ofNat (addr : Word) : addr + 1 = BitVec.ofNat 16 (addr.toNat + 1) := by
  apply BitVec.eq_of_toNat_eq
  simp

theorem lowByte_eq_ofNat (w : Word) : lowByte w = BitVec.ofNat 8 w.toNat := by
  apply BitVec.eq_of_toNat_eq
  rw [lowByte_toNat, BitVec.toNat_ofNat]

theorem highByte_eq_ofNat (w : Word) : highByte w = BitVec.ofNat 8 (w.toNat / 256) := by
  rw [← highByte_toNat, BitVec.ofNat_toNat, BitVec.setWidth_eq]

/-- Settles O32: the later byte is the high one. -/
theorem read16LittleEndian : Obligations.Read16LittleEndian := by
  unfold Obligations.Read16LittleEndian
  intro s addr
  rw [read16, joinBytes_toNat, add_one_eq_ofNat]

/-- Settles O33: the bytes and the second address of `write16`, as numbers. -/
theorem write16LowByteFirst : Obligations.Write16LowByteFirst := by
  unfold Obligations.Write16LowByteFirst
  intro s addr v
  rw [write16, lowByte_eq_ofNat, highByte_eq_ofNat, add_one_eq_ofNat]

end Sys2Proof.Machine
end

section
/-! PROOFS. Memory in a step and at the host's moves (20_memory.md): a running machine answers every step (R43), bootstrap
mode (R57), the writes a program can make (R61), and the cartridge load (R58). -/

namespace Sys2Proof.Machine

theorem hostStep_of_step {s t : State} (h : step s = .next t) : hostStep s = (t, stepResult t) := by
  rw [hostStep, h]

/-- Settles O8: every handler answers a next state, and the host is handed the record that state holds. -/
theorem runningStepAnswersNext : Obligations.RunningStepAnswersNext := by
  unfold Obligations.RunningStepAnswersNext
  intro s hs
  obtain ⟨t, ht, -⟩ := step_total hs
  exact ⟨t, ht, hostStep_of_step ht⟩

/-- No handler writes the bootstrap bit: the bus writes of PUSH leave it. -/
theorem Effect.bus_inboot {s t : State} {code : List Byte} (h : Effect s code t) : t.bus.inboot = s.bus.inboot := by
  obtain hsame | ⟨m, u, rfl, hu⟩ | ⟨m, u, addr, addr', v, v', rfl, hu⟩ := h.outsideCpu
  · rw [hsame.bus]
  · rw [completed_bus, hu.bus]
  · rw [completed_bus, hu.bus, write8_bus_inboot, write8_bus_inboot]

/-- Settles O9: the test at the start of the cycle is the step's only writer of the bootstrap bit. -/
theorem bootstrapExitSampling : Obligations.BootstrapExitSampling := by
  unfold Obligations.BootstrapExitSampling
  refine ⟨fun s t h => ?_, fun s => rfl⟩
  obtain ⟨operand, he⟩ := step_effect_opcode h
  rw [he.bus_inboot, pastOpcode_bus, bootExit_eq, afterBootTest]

/-- The handlers that write no byte change the CPU alone. -/
theorem afterAdd_sameOutsideCpu (r : Reg8) (s : State) : SameOutsideCpu s (afterAdd r s) := ⟨rfl, rfl, rfl⟩
theorem afterCp_sameOutsideCpu (r : Reg8) (s : State) : SameOutsideCpu s (afterCp r s) := ⟨rfl, rfl, rfl⟩
theorem afterLoad_sameOutsideCpu (nn : Word) (s : State) : SameOutsideCpu s (afterLoad nn s) := ⟨rfl, rfl, rfl⟩
theorem afterPop_sameOutsideCpu (p : Pair) (s : State) : SameOutsideCpu s (afterPop p s) where
  bus := by simp [afterPop]
  lcd := by simp [afterPop]
  cfg := by simp [afterPop]

/-- The bytes a program can have written (R61), with the tile cache that follows them. -/
structure SameMemory (s t : State) : Prop where
  bus : t.bus = s.bus
  vram : t.lcd.vram = s.lcd.vram
  oam : t.lcd.oam = s.lcd.oam
  tc : t.lcd.tc = s.lcd.tc

/-- The completion of an instruction advances the display, which writes no store (50_display.md R117, R118). -/
theorem SameMemory.of_completed {s u : State} (h : SameOutsideCpu s u) (m : Nat) : SameMemory s (completed m u) := by
  obtain ⟨hbus, hlcd, -⟩ := h
  constructor <;> simp [hbus, hlcd]

theorem Effect.sameMemory_of_not_push {s t : State} {op : Byte} {operand : List Byte}
    (h : Effect s (op :: operand) t) (hop : op ∉ pushForms.map (·.1)) : SameMemory s t := by
  cases h with
  | push _ p h => exact absurd (pushCodes_pushForms _ h) hop
  | fatal => exact ⟨rfl, rfl, rfl, rfl⟩
  | nop => exact .of_completed ⟨rfl, rfl, rfl⟩ 1
  | add _ r => exact .of_completed (afterAdd_sameOutsideCpu r s) _
  | cp _ r => exact .of_completed (afterCp_sameOutsideCpu r s) _
  | pop _ p => exact .of_completed (afterPop_sameOutsideCpu p s) _
  | load nn => exact .of_completed (afterLoad_sameOutsideCpu nn s) _

/-- Settles O54: past the bootstrap test and the opcode, every family but PUSH leaves the stores. -/
theorem onlyPushWritesMemory : Obligations.OnlyPushWritesMemory := by
  unfold Obligations.OnlyPushWritesMemory
  intro s t h hop
  obtain ⟨operand, he⟩ := step_effect_opcode h
  obtain ⟨hbus, hvram, hoam, htc⟩ := he.sameMemory_of_not_push hop
  rw [pastOpcode_bus, bootExit_eq] at hbus
  rw [pastOpcode_lcd, bootExit_lcd] at hvram hoam htc
  exact ⟨hbus, hvram, hoam, htc⟩

/-- The state a cartridge load leaves (R58). -/
def withCartridge (bytes : List Byte) (s : State) : State :=
  { s with bus := { s.bus with cart := Memory.ofBytes 0 bytes, cartLen := bytes.length } }

/-- After reset the host can load a cartridge (70_reset_and_hazards.md R154). -/
theorem loadCartridge_hostReset (bytes : List Byte) (s : State) :
    loadCartridge bytes (hostReset s) = .next (withCartridge bytes (hostReset s)) := rfl

theorem read_cart_withCartridge (bytes : List Byte) (s : State) (i : Nat) :
    Memory.read (withCartridge bytes s).bus.cart i = bytes.getD i 0x00 := by
  have hread := Memory.read_ofBytes 0 i bytes
  rwa [Nat.zero_add] at hread

/-- Past its end, the image reads as the list's default (R48). -/
theorem cartByte_withCartridge (bytes : List Byte) (s : State) (i : Nat) :
    cartByte (withCartridge bytes s).bus i = bytes.getD i 0x00 := by
  rw [cartByte, read_cart_withCartridge]
  split
  · rfl
  · next hpast => exact (List.getD_eq_default _ _ (Nat.le_of_not_lt hpast)).symm

/-- Settles O58: above the bootstrap range, an address below 0x8000 reads the image. -/
theorem cartridgeLoadVerbatim : Obligations.CartridgeLoadVerbatim := by
  unfold Obligations.CartridgeLoadVerbatim
  intro s bytes
  refine ⟨_, loadCartridge_hostReset bytes s, rfl, read_cart_withCartridge bytes _, fun addr hlo hhi => ?_, rfl⟩
  rw [read8_cart _ hhi (by omega), cartByte_withCartridge]

end Sys2Proof.Machine
end

section
/-! PROOFS. The encoding (30_encoding.md): decoding and encoding undo each other, and the opcode fixes the length. -/

namespace Sys2Proof

/-- An instruction is LD A,(nn), or its code is one byte and the dispatch table holds it at that byte (R69, R70, R74). -/
theorem encode_cases (i : Instr) :
    (∃ nn, i = .ldAnn nn) ∨ ∃ op, encode i = [op] ∧ dispatchEntry op = .formatO i := by
  cases i
  case ldAnn nn => exact .inl ⟨nn, rfl⟩
  all_goals exact .inr ⟨_, rfl, rfl⟩

/-- The opcode 0xFA takes the next two bytes as its operand, low byte first (R70). -/
theorem decode_load (lo hi : Byte) (rest : List Byte) :
    decode (0xFA :: lo :: hi :: rest) = .ok (.ldAnn (joinBytes hi lo), rest) := rfl

/-- Decoding undoes encoding: one lookup for an instruction of one byte, and for LD A,(nn) the two halves of nn. -/
theorem decode_encode (i : Instr) (rest : List Byte) : decode (encode i ++ rest) = .ok (i, rest) := by
  obtain ⟨nn, rfl⟩ | ⟨op, hcode, hentry⟩ := encode_cases i
  · calc decode (encode (.ldAnn nn) ++ rest)
        = .ok (.ldAnn (joinBytes (highByte nn) (lowByte nn)), rest) := decode_load (lowByte nn) (highByte nn) rest
      _ = .ok (.ldAnn nn, rest) := by rw [joinBytes_high_low]
  · rw [hcode]
    exact decode_formatO hentry rest

/-- Inversion of the decoder: what it read was one opcode of format O, or 0xFA and two bytes (R68, R73). -/
theorem decode_cases {bytes rest : List Byte} {i : Instr} (h : decode bytes = .ok (i, rest)) :
    (∃ op, bytes = op :: rest ∧ dispatchEntry op = .formatO i) ∨
    (∃ lo hi, bytes = 0xFA :: lo :: hi :: rest ∧ i = .ldAnn (joinBytes hi lo)) := by
  cases bytes with
  | nil => cases h
  | cons op tail =>
    cases hentry : dispatchEntry op with
    | formatO j =>
      rw [decode_formatO hentry] at h
      cases h
      exact .inl ⟨op, rfl, hentry⟩
    | formatI16 =>
      obtain rfl := (dispatchEntry_formatI16 op).1 hentry
      match tail, h with
      | [], h | [_], h => cases h
      | lo :: hi :: tail, h =>
        cases h
        exact .inr ⟨lo, hi, rfl, rfl⟩

/-- Every opcode but 0xFA is the whole code of one instruction (R68, R73). -/
theorem exists_formatO {op : Byte} (h : op ≠ 0xFA) : ∃ i, dispatchEntry op = .formatO i := by
  cases hentry : dispatchEntry op with
  | formatO i => exact ⟨i, rfl⟩
  | formatI16 => exact absurd ((dispatchEntry_formatI16 op).1 hentry) h

/-- Settles O1, by the two forms of a code: one byte that the table answers, and LD A,(nn)'s three. -/
theorem decodeOfEncode : Obligations.DecodeOfEncode := by
  unfold Obligations.DecodeOfEncode
  exact decode_encode

/-- Settles O2, by what the decoder read: the table's entry encodes to its opcode, and an operand splits into the bytes it
was joined from. -/
theorem encodeOfDecode : Obligations.EncodeOfDecode := by
  unfold Obligations.EncodeOfDecode
  intro bytes rest i h
  obtain ⟨op, rfl, hentry⟩ | ⟨lo, hi, rfl, rfl⟩ := decode_cases h
  · rw [encode_of_dispatchEntry hentry, List.singleton_append]
  · simp [encode]

/-- Settles O4, by the two formats: an opcode of format O decodes alone, and 0xFA needs two more bytes. -/
theorem opcodeFixesLength : Obligations.OpcodeFixesLength := by
  unfold Obligations.OpcodeFixesLength
  refine ⟨fun op rest hop => ?_, fun lo hi rest => ?_, rfl, rfl, fun lo => rfl⟩
  · obtain ⟨i, hentry⟩ := exists_formatO hop
    refine ⟨i, decode_formatO hentry rest, ?_⟩
    rw [encode_of_dispatchEntry hentry, List.length_singleton]
  · exact ⟨joinBytes hi lo, joinBytes_toNat hi lo, decode_load lo hi rest, rfl⟩

/-- Settles O3: each word is the code of its instruction. -/
theorem sampleWordsDecode : Obligations.SampleWordsDecode := by
  unfold Obligations.SampleWordsDecode
  exact ⟨decode_encode .nop [], decode_encode .addAE [], decode_encode .cpH [], decode_encode .pushAF [],
    decode_encode .popHL [], decode_encode (.ldAnn 0x1234) [], decode_encode .fatalCB [0x00]⟩

end Sys2Proof
end

section
/-! PROOFS. The instruction cycle (30_encoding.md R78 to R80): a step runs the instruction at pc, costs what its opcode
costs, and takes the fatal stop at an unimplemented opcode (R75). -/

namespace Sys2Proof.Machine

/-- The fetched bytes are the first of the three bytes at pc (R68). -/
theorem fetchBytes_append (s : State) : ∃ rest, fetchBytes s ++ rest =
    [read8 s s.cpu.pc, read8 s (s.cpu.pc + 1), read8 s (s.cpu.pc + 2)] := by
  cases hentry : dispatchEntry (read8 s s.cpu.pc) with
  | formatO i => exact ⟨_, by rw [fetchBytes_formatO hentry]; rfl⟩
  | formatI16 =>
    have hop := (dispatchEntry_formatI16 _).1 hentry
    exact ⟨[], by rw [fetchBytes_formatI16 hop, hop, List.append_nil]⟩

/-- The three bytes at pc decode to the instruction that the fetch reads. -/
theorem decode_fetchBytes_of_decode {s : State} {i : Instr} {rest : List Byte}
    (h : decode [read8 s s.cpu.pc, read8 s (s.cpu.pc + 1), read8 s (s.cpu.pc + 2)] = .ok (i, rest)) :
    decode (fetchBytes s) = .ok (i, []) := by
  obtain ⟨j, hj, hcode⟩ := decode_fetchBytes s
  obtain ⟨tail, htail⟩ := fetchBytes_append s
  rw [← htail, hcode, decode_encode] at h
  cases h
  exact hj

/-- Settles O6: the fetch reads as many of the three bytes as the instruction has. -/
theorem stepRunsDecodedInstruction : Obligations.StepRunsDecodedInstruction := by
  unfold Obligations.StepRunsDecodedInstruction
  intro s i rest hs h
  rw [← bootExit_eq, ← bootExit_cpu s] at h
  rw [step_running hs (decode_fetchBytes_of_decode h), bootExit_eq]
  rfl

/-- An opcode that is not admitted has one effect: the fatal stop with it (60_exceptions.md R137). -/
theorem Effect.eq_afterFatal {s t : State} {op : Byte} {operand : List Byte} (h : Effect s (op :: operand) t)
    (hop : op ∉ admittedOpcodes) : t = afterFatal op s := by
  cases h with
  | fatal => rfl
  | nop => exact absurd (by decide) hop
  | load => exact absurd (by decide) hop
  | add _ r h => exact absurd (addCodes_admitted _ h) hop
  | cp _ r h => exact absurd (cpCodes_admitted _ h) hop
  | push _ p h => exact absurd (pushCodes_admitted _ h) hop
  | pop _ p h => exact absurd (popCodes_admitted _ h) hop

/-- Settles O5: the byte list is the admitted list's complement among 256 bytes, and the fatal stop is the one effect of an
opcode that is not admitted. -/
theorem unimplementedOpcodes : Obligations.UnimplementedOpcodes := by
  unfold Obligations.UnimplementedOpcodes
  refine ⟨by decide, by decide, by decide, fun s hs hop => ?_⟩
  obtain ⟨t, ht, -⟩ := step_total hs
  obtain ⟨operand, he⟩ := step_effect_opcode ht
  obtain rfl := he.eq_afterFatal hop
  exact ⟨_, ht, rfl, rfl⟩

/-- The cost table of R79 gives each family the parameter of its own. -/
theorem costOfOpcode_of_mem (cfg : Config) :
    (∀ c ∈ addCodes, costOfOpcode cfg c.1 = cfg.cycAdd) ∧ (∀ c ∈ cpCodes, costOfOpcode cfg c.1 = cfg.cycCp) ∧
    (∀ c ∈ pushCodes, costOfOpcode cfg c.1 = cfg.cycPush) ∧ (∀ c ∈ popCodes, costOfOpcode cfg c.1 = cfg.cycPop) := by
  simp [addCodes, cpCodes, pushCodes, popCodes, costOfOpcode]

@[simp] theorem afterPop_cpu_stopped (p : Pair) (s : State) : (afterPop p s).cpu.stopped = s.cpu.stopped := by
  simp [afterPop]

/-- An effect is the fatal stop, or it completes: the counters grow by the opcode's cost, and the machine runs on if it
ran (R79; 60_exceptions.md R138). -/
theorem Effect.cost {s t : State} {op : Byte} {operand : List Byte} (h : Effect s (op :: operand) t) :
    t = afterFatal op s ∨
    (t.cpu.stopped = s.cpu.stopped ∧ t.cpu.clkM = s.cpu.clkM + costOfOpcode s.cfg op ∧
      t.cpu.clkT = s.cpu.clkT + 4 * costOfOpcode s.cfg op) := by
  obtain ⟨hadd, hcp, hpush, hpop⟩ := costOfOpcode_of_mem s.cfg
  cases h with
  | fatal => exact .inl rfl
  | nop => exact .inr ⟨rfl, rfl, rfl⟩
  | load nn => right; simp [costOfOpcode]
  | add _ r h => right; rw [hadd _ h]; simp
  | cp _ r h => right; rw [hcp _ h]; simp
  | push _ p h => right; rw [hpush _ h]; simp
  | pop _ p h => right; rw [hpop _ h]; simp

/-- Settles O12: the bootstrap test and the advance past the opcode leave the counters, and the effect adds its cost or
stops. -/
theorem countersGrowByOpcodeCost : Obligations.CountersGrowByOpcodeCost := by
  unfold Obligations.CountersGrowByOpcodeCost
  intro s t h
  obtain ⟨hs, -⟩ := step_effect h
  obtain ⟨operand, he⟩ := step_effect_opcode h
  obtain rfl | ⟨hstopped, hclkM, hclkT⟩ := he.cost
  · simp
  · simp only [pastOpcode_cpu, pastOpcode_cfg, bootExit_cpu, bootExit_cfg] at hstopped hclkM hclkT
    rw [if_neg (by simp [hstopped, hs])]
    exact ⟨hclkM, hclkT⟩

end Sys2Proof.Machine
end

section
/-! PROOFS. The 8-bit ALU (40_alu.md): its result and flags (R81 to R86), ADD A,r (R87 to R94) and CP r (R95 to R102). Each
form of an instruction is its shared meaning at one register, so the flags are computed once, for any two operands. -/

namespace Sys2Proof.Machine

-- ---- the outputs of the ALU ----

/-- The test on the masked result is a test on the unmasked result's residue (R85). -/
theorem zeroFlag_eq_zeroBit (p : ZeroPolarity) (u : Int) : zeroFlag p u = zeroBit p (u % 256).toNat := by
  have hmask : mask8 u = 0 ↔ (u % 256).toNat = 0 := by rw [mask8_eq_zero]; omega
  cases p with
  | setWhenZero => simp only [zeroFlag, zeroBit, hmask]
  | setWhenNonzero => simp only [zeroFlag, zeroBit, ne_eq, hmask]

theorem subtractFlag_eq (op : AluOp) : subtractFlag op = decide (op = .sub) := by cases op <;> rfl

/-- Bit 4 of x ^ y ^ u, the carry or the borrow of the low nibbles (R84). -/
theorem halfFlag_add (x y : Byte) :
    halfFlag x y (unmasked .add x y) = decide (x.toNat % 16 + y.toNat % 16 > 15) := by
  rw [halfFlag, ofInt_unmasked_add, carry_into_bit4]

theorem halfFlag_sub (x y : Byte) :
    halfFlag x y (unmasked .sub x y) = decide (x.toNat % 16 < y.toNat % 16) := by
  rw [halfFlag, ofInt_unmasked_sub, borrow_from_bit4]

/-- Where the flag byte holds each flag of the unmasked result (R86). -/
theorem aluFlags_bits (p : ZeroPolarity) (op : AluOp) (x y : Byte) :
    (aluFlags p op x y).getLsbD 7 = zeroFlag p (unmasked op x y) ∧
    (aluFlags p op x y).getLsbD 6 = subtractFlag op ∧
    (aluFlags p op x y).getLsbD 5 = halfFlag x y (unmasked op x y) ∧
    (aluFlags p op x y).getLsbD 4 = carryFlag op (unmasked op x y) ∧
    aluFlags p op x y &&& 0x0F = 0 :=
  packFlags_bits _ _ _ _

/-- The mask of a write to F (10_state.md R20) takes nothing from the ALU's flags. -/
theorem aluFlags_masked (p : ZeroPolarity) (op : AluOp) (x y : Byte) :
    aluFlags p op x y &&& 0xF0 = aluFlags p op x y :=
  packFlags_masked _ _ _ _

/-- Settles O13: each flag stands at its bit, and the half-carry of either operation is that of the low nibbles. -/
theorem aluOutputs : Obligations.AluOutputs := by
  unfold Obligations.AluOutputs
  intro p op x y
  obtain ⟨hz, hn, hh, hc, hlow⟩ := aluFlags_bits p op x y
  rw [zeroFlag_eq_zeroBit] at hz
  rw [subtractFlag_eq] at hn
  cases op with
  | add => exact ⟨mask8_toNat _, hz, hn, hh, hh.trans (halfFlag_add x y), hc, hlow⟩
  | sub => exact ⟨mask8_toNat _, hz, hn, hh, hh.trans (halfFlag_sub x y), hc, hlow⟩

-- ---- what ADD and CP put in A and F ----

theorem aluResult_add_toNat (x y : Byte) : (aluResult .add x y).toNat = (x.toNat + y.toNat) % 256 := by
  have h : ((aluResult .add x y).toNat : Int) = (x.toNat + y.toNat : Int) % 256 := mask8_toNat _
  omega

/-- The flags of a sum, with the sum a natural number (R87). -/
theorem aluFlags_add (p : ZeroPolarity) (x y : Byte) :
    (aluFlags p .add x y).getLsbD 7 = zeroBit p ((x.toNat + y.toNat) % 256) ∧
    (aluFlags p .add x y).getLsbD 6 = false ∧
    (aluFlags p .add x y).getLsbD 5 = (x ^^^ y ^^^ BitVec.ofNat 8 (x.toNat + y.toNat)).getLsbD 4 ∧
    (aluFlags p .add x y).getLsbD 4 = decide (x.toNat + y.toNat > 255) ∧
    aluFlags p .add x y &&& 0x0F = 0 := by
  have hu : unmasked .add x y = ((x.toNat + y.toNat : Nat) : Int) := (Int.natCast_add _ _).symm
  obtain ⟨hz, hn, hh, hc, hlow⟩ := aluFlags_bits p .add x y
  rw [zeroFlag_eq_zeroBit, hu] at hz
  rw [halfFlag, hu, BitVec.ofInt_natCast] at hh
  rw [carryFlag, hu] at hc
  refine ⟨hz, hn, hh, hc.trans ?_, hlow⟩
  rw [decide_eq_decide]
  omega

/-- The flags of a difference: its residue without a negative number, and the borrow as a comparison (R95). -/
theorem aluFlags_sub (p : ZeroPolarity) (x y : Byte) :
    (aluFlags p .sub x y).getLsbD 7 = zeroBit p ((x.toNat + 256 - y.toNat) % 256) ∧
    (aluFlags p .sub x y).getLsbD 6 = true ∧
    (aluFlags p .sub x y).getLsbD 5 = (x ^^^ y ^^^ BitVec.ofInt 8 ((x.toNat : Int) - y.toNat)).getLsbD 4 ∧
    (aluFlags p .sub x y).getLsbD 4 = decide (x.toNat < y.toNat) ∧
    aluFlags p .sub x y &&& 0x0F = 0 := by
  have hres : (unmasked .sub x y % 256).toNat = (x.toNat + 256 - y.toNat) % 256 := by
    have hy := y.isLt
    rw [unmasked]
    omega
  have hborrow : unmasked .sub x y < 0 ↔ x.toNat < y.toNat := by rw [unmasked]; omega
  obtain ⟨hz, hn, hh, hc, hlow⟩ := aluFlags_bits p .sub x y
  rw [zeroFlag_eq_zeroBit, hres] at hz
  exact ⟨hz, hn, hh, hc.trans (decide_eq_decide.2 hborrow), hlow⟩

/-- Equal operands leave no half-carry and no carry: N and the zero test decide the byte (R95, corner case). -/
theorem aluFlags_sub_self (p : ZeroPolarity) (x : Byte) :
    aluFlags p .sub x x = if p = .setWhenZero then 0xC0 else 0x40 := by
  have hu : unmasked .sub x x = 0 := Int.sub_self _
  have hh : halfFlag x x 0 = false := by simp [halfFlag]
  rw [aluFlags, hu, hh]
  cases p <;> rfl

-- ---- the instructions ----

/-- Each form of ADD A,r decodes, and is the shared meaning at the register it names (R88 to R94). -/
theorem addForms_eq_addToA : ∀ p ∈ addForms, decode [p.1] = .ok (p.2.1, []) ∧
    ∃ r, ∀ s, p.2.2 s.cpu = readReg s r ∧ exec p.2.1 s = addToA r s := by
  simp only [addForms, List.forall_mem_cons]
  exact ⟨⟨rfl, .b, fun _ => ⟨rfl, rfl⟩⟩, ⟨rfl, .c, fun _ => ⟨rfl, rfl⟩⟩, ⟨rfl, .d, fun _ => ⟨rfl, rfl⟩⟩,
    ⟨rfl, .e, fun _ => ⟨rfl, rfl⟩⟩, ⟨rfl, .h, fun _ => ⟨rfl, rfl⟩⟩, ⟨rfl, .l, fun _ => ⟨rfl, rfl⟩⟩,
    ⟨rfl, .a, fun _ => ⟨rfl, rfl⟩⟩, List.forall_mem_nil _⟩

/-- Each form of CP r decodes, and is the shared meaning at the register it names (R96 to R102). -/
theorem cpForms_eq_compareWithA : ∀ p ∈ cpForms, decode [p.1] = .ok (p.2.1, []) ∧
    ∃ r, ∀ s, p.2.2 s.cpu = readReg s r ∧ exec p.2.1 s = compareWithA r s := by
  simp only [cpForms, List.forall_mem_cons]
  exact ⟨⟨rfl, .b, fun _ => ⟨rfl, rfl⟩⟩, ⟨rfl, .c, fun _ => ⟨rfl, rfl⟩⟩, ⟨rfl, .d, fun _ => ⟨rfl, rfl⟩⟩,
    ⟨rfl, .e, fun _ => ⟨rfl, rfl⟩⟩, ⟨rfl, .h, fun _ => ⟨rfl, rfl⟩⟩, ⟨rfl, .l, fun _ => ⟨rfl, rfl⟩⟩,
    ⟨rfl, .a, fun _ => ⟨rfl, rfl⟩⟩, List.forall_mem_nil _⟩

/-- The completion of a handler that changed the CPU alone, and not its counters, leaves the bus, the parameters and every
byte that can be read. -/
theorem SameOutsideCpu.completed_frame {s u : State} (h : SameOutsideCpu s u) (hclkM : u.cpu.clkM = s.cpu.clkM)
    (hclkT : u.cpu.clkT = s.cpu.clkT) (m : Nat) :
    (completed m u).bus = s.bus ∧ (completed m u).cfg = s.cfg ∧
    (∀ addr, read8 (completed m u) addr = read8 s addr) ∧ Completed m s s.lcd (completed m u) := by
  obtain ⟨hbus, hvram, hoam, -⟩ := SameMemory.of_completed h m
  refine ⟨hbus, h.cfg, read8_congr hbus hvram hoam, ?_, ?_, ?_⟩
  · rw [completed_cpu, hclkM]
  · rw [completed_cpu, hclkT]
  · rw [completed_lcd, h.lcd, h.cfg]

theorem afterAdd_cpu_f (r : Reg8) (s : State) :
    (afterAdd r s).cpu.f = aluFlags s.cfg.zeroPolarity .add s.cpu.a (readReg s r) :=
  aluFlags_masked _ _ _ _

theorem afterCp_cpu_f (r : Reg8) (s : State) :
    (afterCp r s).cpu.f = aluFlags s.cfg.zeroPolarity .sub s.cpu.a (readReg s r) :=
  aluFlags_masked _ _ _ _

/-- Settles O14: the sum and its flags at the register the form names. -/
theorem addComputesSum : Obligations.AddComputesSum := by
  unfold Obligations.AddComputesSum
  intro p hp s
  obtain ⟨hdecode, r, hr⟩ := addForms_eq_addToA p hp
  obtain ⟨hy, hexec⟩ := hr s
  have hflags := aluFlags_add s.cfg.zeroPolarity s.cpu.a (readReg s r)
  rw [← afterAdd_cpu_f] at hflags
  obtain ⟨hz, hn, hh, hc, hlow⟩ := hflags
  refine ⟨hdecode, completed s.cfg.cycAdd (afterAdd r s), hexec.trans (addToA_eq r s), ?_⟩
  rw [hy]
  exact ⟨aluResult_add_toNat _ _, hz, hn, hh, hc, hlow, rfl, (afterAdd_sameOutsideCpu r s).completed_frame rfl rfl _⟩

/-- Settles O15: the flags of the difference at the register the form names; A is not written. -/
theorem cpSetsFlags : Obligations.CpSetsFlags := by
  unfold Obligations.CpSetsFlags
  intro p hp s
  obtain ⟨hdecode, r, hr⟩ := cpForms_eq_compareWithA p hp
  obtain ⟨hy, hexec⟩ := hr s
  have hflags := aluFlags_sub s.cfg.zeroPolarity s.cpu.a (readReg s r)
  rw [← afterCp_cpu_f] at hflags
  obtain ⟨hz, hn, hh, hc, hlow⟩ := hflags
  refine ⟨hdecode, completed s.cfg.cycCp (afterCp r s), hexec.trans (compareWithA_eq r s), ?_⟩
  rw [hy]
  exact ⟨hz, hn, hh, hc, hlow, rfl, (afterCp_sameOutsideCpu r s).completed_frame rfl rfl _⟩

/-- CP A is the shared meaning at A (R102). -/
theorem exec_cpA (s : State) : exec .cpA s = compareWithA .a s := rfl

/-- Settles O16: A - A has the flags of equal operands. -/
theorem cpWithItself : Obligations.CpWithItself := by
  unfold Obligations.CpWithItself
  intro s
  refine ⟨completed s.cfg.cycCp (afterCp .a s), (exec_cpA s).trans (compareWithA_eq .a s), ?_⟩
  calc (completed s.cfg.cycCp (afterCp .a s)).cpu.f
      = aluFlags s.cfg.zeroPolarity .sub s.cpu.a s.cpu.a := afterCp_cpu_f .a s
    _ = if s.cfg.zeroPolarity = .setWhenZero then 0xC0 else 0x40 := aluFlags_sub_self _ _

end Sys2Proof.Machine
end

section
/-! PROOFS. The two handlers that compute nothing (41_control.md): NOP (R103) and FATAL (R104). -/

namespace Sys2Proof.Machine

/-- Settles O10: the fatal stop is the one effect of a handler whose code is not admitted. -/
theorem fatalHandlerTakesStop : Obligations.FatalHandlerTakesStop := by
  unfold Obligations.FatalHandlerTakesStop
  intro i op s hcode hop
  obtain ⟨t, ht, he⟩ := exec_effect i s
  rw [hcode] at he
  rw [ht, he.eq_afterFatal hop, afterFatal]

/-- NOP is the completion at its fixed cost, with no write of its own (R103). -/
theorem exec_nop (s : State) : exec .nop s = .next (completed 1 s) := rfl

/-- The byte 0x00 at pc, whatever follows it, is fetched as NOP (R103, corner case). -/
theorem step_nop {s : State} (hs : Running s) (hop : read8 (afterBootTest s) s.cpu.pc = 0x00) :
    step s = exec .nop (pastOpcode (afterBootTest s)) := by
  have hdecode (b c : Byte) : decode [0x00, b, c] = .ok (.nop, [b, c]) := decode_encode .nop [b, c]
  exact stepRunsDecodedInstruction s .nop _ hs (hop ▸ hdecode _ _)

/-- Settles O17: the step is the handler one past the opcode, and the handler is its completion. -/
theorem nopOnlyCosts : Obligations.NopOnlyCosts := by
  unfold Obligations.NopOnlyCosts
  refine ⟨exec_nop, fun s hs hop => ?_⟩
  rw [step_nop hs hop, exec_nop]
  rfl

end Sys2Proof.Machine
end

section
/-! PROOFS. The stack (42_stack.md): PUSH (R105 to R109), POP (R110 to R114) and their round trip (90_conflicts.md C12). Each
form is the shared meaning at one pair. What PUSH stores and what POP loads is said once, for every pair. -/

namespace Sys2Proof.Machine

-- ---- the forms and their pairs ----

/-- The two register fields of the claims are the registers of the pair (10_state.md R18). -/
def NamesPair (p : Pair) (high low : Cpu → Byte) : Prop := ∀ s : State, high s.cpu = pairHigh s p ∧ low s.cpu = pairLow s p

theorem namesPair_bc : NamesPair .bc Cpu.b Cpu.c := fun _ => ⟨rfl, rfl⟩
theorem namesPair_de : NamesPair .de Cpu.d Cpu.e := fun _ => ⟨rfl, rfl⟩
theorem namesPair_hl : NamesPair .hl Cpu.h Cpu.l := fun _ => ⟨rfl, rfl⟩
theorem namesPair_af : NamesPair .af Cpu.a Cpu.f := fun _ => ⟨rfl, rfl⟩

/-- What POP keeps of the byte for the low register: F takes the high nibble (R114). -/
def pairLowMask : Pair → Byte
  | .bc | .de | .hl => 0xFF
  | .af => 0xF0

/-- Each PUSH decodes, and is the shared meaning at the pair it names (R106 to R109). -/
theorem pushForms_eq_pushPair : ∀ f ∈ pushForms, decode [f.1] = .ok (f.2.1, []) ∧
    ∃ p, NamesPair p f.2.2.1 f.2.2.2 ∧ ∀ s, exec f.2.1 s = pushPair p s := by
  simp only [pushForms, List.forall_mem_cons]
  exact ⟨⟨rfl, .bc, namesPair_bc, fun _ => rfl⟩, ⟨rfl, .de, namesPair_de, fun _ => rfl⟩,
    ⟨rfl, .hl, namesPair_hl, fun _ => rfl⟩, ⟨rfl, .af, namesPair_af, fun _ => rfl⟩, List.forall_mem_nil _⟩

/-- Each POP decodes, and is the shared meaning at the pair it names, with the mask of its low register (R111 to R114). -/
theorem popForms_eq_popPair : ∀ f ∈ popForms, decode [f.1] = .ok (f.2.1, []) ∧
    ∃ p, NamesPair p f.2.2.1 f.2.2.2.1 ∧ f.2.2.2.2 = pairLowMask p ∧ ∀ s, exec f.2.1 s = popPair p s := by
  simp only [popForms, List.forall_mem_cons]
  exact ⟨⟨rfl, .bc, namesPair_bc, rfl, fun _ => rfl⟩, ⟨rfl, .de, namesPair_de, rfl, fun _ => rfl⟩,
    ⟨rfl, .hl, namesPair_hl, rfl, fun _ => rfl⟩, ⟨rfl, .af, namesPair_af, rfl, fun _ => rfl⟩, List.forall_mem_nil _⟩

/-- The PUSH and the POP of one pair are the shared meanings at that pair. -/
theorem stackPairs_eq_pushPair_popPair : ∀ f ∈ stackPairs,
    ∃ p, NamesPair p f.2.2.1 f.2.2.2 ∧ ∀ s, exec f.1 s = pushPair p s ∧ exec f.2.1 s = popPair p s := by
  simp only [stackPairs, List.forall_mem_cons]
  exact ⟨⟨.bc, namesPair_bc, fun _ => ⟨rfl, rfl⟩⟩, ⟨.de, namesPair_de, fun _ => ⟨rfl, rfl⟩⟩,
    ⟨.hl, namesPair_hl, fun _ => ⟨rfl, rfl⟩⟩, ⟨.af, namesPair_af, fun _ => ⟨rfl, rfl⟩⟩, List.forall_mem_nil _⟩

theorem eq_of_pushPair_next {p : Pair} {s t : State} (h : pushPair p s = .next t) :
    t = completed s.cfg.cycPush (afterPush p s) :=
  Host.Outcome.next.inj (h.symm.trans (pushPair_eq p s))

theorem eq_of_popPair_next {p : Pair} {s t : State} (h : popPair p s = .next t) :
    t = completed s.cfg.cycPop (afterPop p s) :=
  Host.Outcome.next.inj (h.symm.trans (popPair_eq p s))

-- ---- the pair registers after each operation ----

/-- A pair is read from the registers; the counters and sp are not among them. -/
@[simp] theorem pairHigh_completed (m : Nat) (s : State) (p : Pair) : pairHigh (completed m s) p = pairHigh s p := by
  cases p <;> rfl
@[simp] theorem pairLow_completed (m : Nat) (s : State) (p : Pair) : pairLow (completed m s) p = pairLow s p := by
  cases p <;> rfl

@[simp] theorem pairHigh_afterPush (p : Pair) (s : State) (q : Pair) : pairHigh (afterPush p s) q = pairHigh s q := by
  cases q <;> simp [pairHigh]
@[simp] theorem pairLow_afterPush (p : Pair) (s : State) (q : Pair) : pairLow (afterPush p s) q = pairLow s q := by
  cases q <;> simp [pairLow]

theorem pairHigh_writePair_same (s : State) (p : Pair) (hi lo : Byte) : pairHigh (writePair s p hi lo) p = hi := by
  cases p <;> rfl

theorem pairLow_writePair_same (s : State) (p : Pair) (hi lo : Byte) :
    pairLow (writePair s p hi lo) p = lo &&& pairLowMask p := by
  cases p with
  | bc | de | hl => exact BitVec.and_allOnes.symm
  | af => rfl

/-- No two pairs share a register (10_state.md R18). -/
theorem pair_writePair_other (s : State) {p q : Pair} (hi lo : Byte) (h : q ≠ p) :
    pairHigh (writePair s p hi lo) q = pairHigh s q ∧ pairLow (writePair s p hi lo) q = pairLow s q := by
  cases p <;> cases q
  case bc.bc | de.de | hl.hl | af.af => exact absurd rfl h
  all_goals exact ⟨rfl, rfl⟩

/-- POP loads the low register from sp and the high one from sp + 1 (R110). -/
theorem pairHigh_afterPop_same (p : Pair) (s : State) : pairHigh (afterPop p s) p = read8 s (s.cpu.sp + 1) := by
  rw [afterPop, pairHigh_writePair_same, topByte_dropByte]

theorem pairLow_afterPop_same (p : Pair) (s : State) :
    pairLow (afterPop p s) p = read8 s s.cpu.sp &&& pairLowMask p := by
  rw [afterPop, pairLow_writePair_same, topByte_eq]

theorem pair_afterPop_other {p q : Pair} (s : State) (h : q ≠ p) :
    pairHigh (afterPop p s) q = pairHigh s q ∧ pairLow (afterPop p s) q = pairLow s q := by
  have hdrop : pairHigh (dropByte (dropByte s)) q = pairHigh s q ∧ pairLow (dropByte (dropByte s)) q = pairLow s q := by
    cases q <;> exact ⟨rfl, rfl⟩
  rw [afterPop, ← hdrop.1, ← hdrop.2]
  exact pair_writePair_other _ _ _ h

-- ---- memory after PUSH ----

theorem SameByte.symm {a b : Word} (h : SameByte a b) : SameByte b a := by
  obtain heq | hmirror | hmirror := h
  · exact .inl heq.symm
  · exact .inr (.inr hmirror)
  · exact .inr (.inl hmirror)

/-- The two bytes of one PUSH are apart, across the wrap of sp too: the mirror is 0x2000 away. -/
theorem not_sameByte_stack (sp : Word) : ¬SameByte (sp - 2) (sp - 1) := by
  rw [SameByte, ← BitVec.toNat_inj]
  bv_omega

/-- A write changes no byte but the one it stores, and none if it is lost. -/
theorem read8_write8_of_not_stored (s : State) {a a' : Word} (v : Byte) (h : WritableAddr a → ¬SameByte a' a) :
    read8 (write8 s a v) a' = read8 s a' := by
  by_cases ha : WritableAddr a
  · exact read8_write8_other s v ha (fun hsame => h ha hsame.symm)
  · rw [droppedWrites s a v ha]

/-- Reads after PUSH are reads after its two bus writes: sp is no part of memory. -/
theorem read8_afterPush (p : Pair) (s : State) (addr : Word) : read8 (afterPush p s) addr =
    read8 (write8 (write8 s (s.cpu.sp - 1) (pairHigh s p)) (s.cpu.sp - 2) (pairLow s p)) addr := by
  rw [afterPush_eq, read8_setSp]

theorem read8_afterPush_high {s : State} (hs : StoresWf s) (p : Pair) (h : WritableAddr (s.cpu.sp - 1)) :
    read8 (afterPush p s) (s.cpu.sp - 1) = pairHigh s p := by
  rw [read8_afterPush, read8_write8_of_not_stored _ _ fun _ hsame => not_sameByte_stack _ hsame.symm]
  exact read8_write8_sameByte hs _ h (.inl rfl)

theorem read8_afterPush_low {s : State} (hs : StoresWf s) (p : Pair) (h : WritableAddr (s.cpu.sp - 2)) :
    read8 (afterPush p s) (s.cpu.sp - 2) = pairLow s p := by
  rw [read8_afterPush]
  exact read8_write8_sameByte (write8_storesWf hs _ _) _ h (.inl rfl)

theorem read8_afterPush_other (p : Pair) (s : State) {addr : Word}
    (hhigh : WritableAddr (s.cpu.sp - 1) → ¬SameByte addr (s.cpu.sp - 1))
    (hlow : WritableAddr (s.cpu.sp - 2) → ¬SameByte addr (s.cpu.sp - 2)) :
    read8 (afterPush p s) addr = read8 s addr := by
  rw [read8_afterPush, read8_write8_of_not_stored _ _ hlow, read8_write8_of_not_stored _ _ hhigh]

@[simp] theorem afterPush_cfg (p : Pair) (s : State) : (afterPush p s).cfg = s.cfg := by simp [afterPush]

/-- The part of the invariant that a read back needs. -/
theorem Inv.storesWf {s : State} (h : Inv s) : StoresWf s := ⟨h.busStores, h.lcdStores⟩

/-- PUSH leaves the ROM images and the bootstrap bit. -/
theorem afterPush_bus_fixed (p : Pair) (s : State) : (afterPush p s).bus.inboot = s.bus.inboot ∧
    (afterPush p s).bus.bootRom = s.bus.bootRom ∧ (afterPush p s).bus.cart = s.bus.cart ∧
    (afterPush p s).bus.cartLen = s.bus.cartLen := by
  simp [afterPush]

/-- Settles O18: the shared meaning, with its two byte writes as bus writes at the old sp. -/
theorem pushWritesPair : Obligations.PushWritesPair := by
  unfold Obligations.PushWritesPair
  intro f hf s
  obtain ⟨hdecode, p, hp, hexec⟩ := pushForms_eq_pushPair f hf
  obtain ⟨hhigh, hlow⟩ := hp s
  refine ⟨hdecode, completed s.cfg.cycPush (afterPush p s), (hexec s).trans (pushPair_eq p s), ?_⟩
  rw [hhigh, hlow]
  refine ⟨by simp, ?bus, by simp, by simp, by simp, ?lcd⟩
  case bus => rw [completed_bus, afterPush_eq, setSp_bus]
  case lcd => rw [completed_lcd, afterPush_cfg, afterPush_eq, setSp_lcd]

/-- Settles O19: the completion changes no byte, so it is what PUSH's two writes leave. -/
theorem pushMemory : Obligations.PushMemory := by
  unfold Obligations.PushMemory
  intro f hf s t hs h
  obtain ⟨-, p, hp, hexec⟩ := pushForms_eq_pushPair f hf
  obtain ⟨hhigh, hlow⟩ := hp s
  obtain rfl := eq_of_pushPair_next ((hexec s).symm.trans h)
  simp only [read8_completed, completed_bus, hhigh, hlow]
  exact ⟨read8_afterPush_high hs.storesWf p, read8_afterPush_low hs.storesWf p, fun _ => read8_afterPush_other p s,
    afterPush_bus_fixed p s⟩

-- ---- POP ----

/-- POP leaves the bus, the parameters and every byte, and its completion adds the cost (R110). -/
theorem completed_afterPop_frame (p : Pair) (s : State) (m : Nat) :
    (completed m (afterPop p s)).bus = s.bus ∧ (completed m (afterPop p s)).cfg = s.cfg ∧
    (∀ addr, read8 (completed m (afterPop p s)) addr = read8 s addr) ∧
    Completed m s s.lcd (completed m (afterPop p s)) :=
  (afterPop_sameOutsideCpu p s).completed_frame (afterPop_cpu_clkM p s) (afterPop_cpu_clkT p s) m

/-- Settles O20: the shared meaning at the pair the form names. -/
theorem popReadsPair : Obligations.PopReadsPair := by
  unfold Obligations.PopReadsPair
  intro f hf s
  obtain ⟨hdecode, p, hp, hmask, hexec⟩ := popForms_eq_popPair f hf
  obtain ⟨-, -, -, hcompleted⟩ := completed_afterPop_frame p s s.cfg.cycPop
  obtain ⟨hhigh, hlow⟩ := hp (completed s.cfg.cycPop (afterPop p s))
  refine ⟨hdecode, completed s.cfg.cycPop (afterPop p s), (hexec s).trans (popPair_eq p s), ?_, ?_, ?_, hcompleted⟩
  · rw [hhigh, pairHigh_completed, pairHigh_afterPop_same]
  · rw [hlow, hmask, pairLow_completed, pairLow_afterPop_same]
  · simp

/-- Settles O21: each pair write sets two fields of the CPU, and none outside it. -/
theorem popFrame : Obligations.PopFrame := by
  unfold Obligations.PopFrame
  intro s t
  refine ⟨fun h => ?bc, fun h => ?de, fun h => ?hl, fun h => ?af, fun f hf h => ?memory⟩
  case memory =>
    obtain ⟨-, p, -, -, hexec⟩ := popForms_eq_popPair f hf
    obtain rfl := eq_of_popPair_next ((hexec s).symm.trans h)
    obtain ⟨hbus, hcfg, hread, -⟩ := completed_afterPop_frame p s s.cfg.cycPop
    exact ⟨hbus, hcfg, hread⟩
  all_goals
    obtain rfl := eq_of_popPair_next h
    rfl

-- ---- PUSH, then POP ----

/-- F of the invariant is its own high nibble (10_state.md R20), so POP's mask takes nothing from the pushed byte. -/
theorem pairLow_masked {s : State} (hf : s.cpu.f &&& 0x0F = 0) (p : Pair) : pairLow s p &&& pairLowMask p = pairLow s p := by
  cases p with
  | bc | de | hl => exact BitVec.and_allOnes
  | af =>
    calc s.cpu.f &&& 0xF0
        = s.cpu.f &&& 0xF0 ||| s.cpu.f &&& 0x0F := by rw [hf]; exact BitVec.or_zero.symm
      _ = s.cpu.f &&& (0xF0 ||| 0x0F) := BitVec.and_or_distrib_left.symm
      _ = s.cpu.f := BitVec.and_allOnes

/-- The state after a PUSH and the POP of the same pair. -/
def afterPushPop (p : Pair) (s : State) : State :=
  completed s.cfg.cycPop (afterPop p (completed s.cfg.cycPush (afterPush p s)))

theorem eq_afterPushPop {p : Pair} {s t u : State} (hpush : pushPair p s = .next t) (hpop : popPair p t = .next u) :
    u = afterPushPop p s := by
  obtain rfl := eq_of_pushPair_next hpush
  obtain rfl := eq_of_popPair_next hpop
  rw [completed_cfg, afterPush_cfg, afterPushPop]

theorem afterPushPop_cpu_sp (p : Pair) (s : State) : (afterPushPop p s).cpu.sp = s.cpu.sp := by
  simp [afterPushPop]

/-- POP reads the high register back where PUSH wrote it. -/
theorem pairHigh_afterPushPop_same (p : Pair) (s : State) :
    pairHigh (afterPushPop p s) p = read8 (afterPush p s) (s.cpu.sp - 1) := by
  have hsp : (completed s.cfg.cycPush (afterPush p s)).cpu.sp = s.cpu.sp - 2 := by simp
  have haddr : s.cpu.sp - 2 + 1 = s.cpu.sp - 1 := by bv_omega
  rw [afterPushPop, pairHigh_completed, pairHigh_afterPop_same, read8_completed, hsp, haddr]

theorem pairLow_afterPushPop_same (p : Pair) (s : State) :
    pairLow (afterPushPop p s) p = read8 (afterPush p s) (s.cpu.sp - 2) &&& pairLowMask p := by
  simp [afterPushPop, pairLow_afterPop_same]

/-- The low register comes back whenever its own byte was stored. -/
theorem pairLow_afterPushPop_restored {s : State} (hs : Inv s) (p : Pair) (h : WritableAddr (s.cpu.sp - 2)) :
    pairLow (afterPushPop p s) p = pairLow s p := by
  rw [pairLow_afterPushPop_same, read8_afterPush_low hs.storesWf p h, pairLow_masked hs.flagsLow]

/-- The same pair comes back when both bytes were stored, and every other pair is not touched. -/
theorem afterPushPop_pairs_restored {s : State} (hs : Inv s) (p : Pair) (hhigh : WritableAddr (s.cpu.sp - 1))
    (hlow : WritableAddr (s.cpu.sp - 2)) (q : Pair) :
    pairHigh (afterPushPop p s) q = pairHigh s q ∧ pairLow (afterPushPop p s) q = pairLow s q := by
  by_cases hq : q = p
  · subst hq
    rw [pairHigh_afterPushPop_same, read8_afterPush_high hs.storesWf q hhigh]
    exact ⟨rfl, pairLow_afterPushPop_restored hs q hlow⟩
  · simp [afterPushPop, pair_afterPop_other _ hq]

/-- At sp = 0x0000 the high byte goes to 0xFFFF, which stores nothing and reads 0x00 (90_conflicts.md C12). -/
theorem pairHigh_afterPushPop_at_zero {s : State} (hsp : s.cpu.sp = 0x0000) (p : Pair) :
    pairHigh (afterPushPop p s) p = 0x00 := by
  rw [pairHigh_afterPushPop_same, hsp]
  exact read8_storeless _ (by decide) (by decide)

/-- Settles O22: every pair comes back, the pushed one among them. -/
theorem pushThenPopRestores : Obligations.PushThenPopRestores := by
  unfold Obligations.PushThenPopRestores
  intro f hf s t u hs hpush hpop hhigh hlow
  obtain ⟨p, -, hexec⟩ := stackPairs_eq_pushPair_popPair f hf
  obtain rfl := eq_afterPushPop ((hexec s).1.symm.trans hpush) ((hexec t).2.symm.trans hpop)
  have hall : ∀ g ∈ stackPairs, g.2.2.1 (afterPushPop p s).cpu = g.2.2.1 s.cpu ∧
      g.2.2.2 (afterPushPop p s).cpu = g.2.2.2 s.cpu := by
    intro g hg
    obtain ⟨q, hq, -⟩ := stackPairs_eq_pushPair_popPair g hg
    rw [(hq s).1, (hq s).2, (hq _).1, (hq _).2]
    exact afterPushPop_pairs_restored hs p hhigh hlow q
  obtain ⟨hhigh_back, hlow_back⟩ := hall f hf
  exact ⟨hhigh_back, hlow_back, afterPushPop_cpu_sp p s, hall⟩

/-- Settles O23: sp comes back by arithmetic mod 2^16; at 0x0000 the low byte goes to 0xFFFE, the top of zero-page RAM. -/
theorem pushThenPopAtZero : Obligations.PushThenPopAtZero := by
  unfold Obligations.PushThenPopAtZero
  intro f hf s t u hpush hpop
  obtain ⟨p, hp, hexec⟩ := stackPairs_eq_pushPair_popPair f hf
  obtain rfl := eq_afterPushPop ((hexec s).1.symm.trans hpush) ((hexec t).2.symm.trans hpop)
  refine ⟨afterPushPop_cpu_sp p s, fun hs hsp => ?_⟩
  have hlow : WritableAddr (s.cpu.sp - 2) := by
    rw [hsp]
    exact .inr (by decide)
  rw [(hp s).2, (hp _).1, (hp _).2]
  exact ⟨pairHigh_afterPushPop_at_zero hsp p, pairLow_afterPushPop_restored hs p hlow⟩

end Sys2Proof.Machine
end

section
/-! PROOFS. The absolute load (43_load.md R115): the handler for every nn, and the step that fetches nn and runs it. -/

namespace Sys2Proof.Machine

/-- LD A,(nn) always completes, and its cost is added to the state its read and writes leave (R115). -/
theorem exec_load (nn : Word) (s : State) :
    exec (.ldAnn nn) s = .next (completed s.cfg.cycLdamm (afterLoad nn s)) := execLdAnn_eq nn s

/-- The byte 0xFA at pc is fetched as LD A,(nn), with nn the two bytes after it, low byte first (R70, R115). -/
theorem step_load {s : State} (hs : Running s) (hop : read8 (afterBootTest s) s.cpu.pc = 0xFA) :
    step s = exec (.ldAnn (joinBytes (read8 (afterBootTest s) (s.cpu.pc + 2)) (read8 (afterBootTest s) (s.cpu.pc + 1))))
      (pastOpcode (afterBootTest s)) :=
  stepRunsDecodedInstruction s _ [] hs (hop ▸ decode_load _ _ [])

/-- The opcode and the operand take pc three bytes on, and past the opcode nn reads the same byte (R25, R115). -/
theorem afterLoad_pastOpcode_cpu (nn : Word) (s : State) : (afterLoad nn (pastOpcode s)).cpu =
    { s.cpu with a := read8 s nn, pc := s.cpu.pc + 3 } := by
  have hpc : s.cpu.pc + 1 + 2 = s.cpu.pc + 3 := BitVec.add_assoc _ 1 2
  rw [afterLoad_cpu, read8_pastOpcode, pastOpcode_cpu, hpc]

/-- Settles O24: the load changes A and pc alone, and its completion leaves the rest of the frame. -/
theorem loadAbsolute : Obligations.LoadAbsolute := by
  unfold Obligations.LoadAbsolute
  intro nn s
  refine ⟨completed s.cfg.cycLdamm (afterLoad nn s), exec_load nn s, ?_,
    (afterLoad_sameOutsideCpu nn s).completed_frame rfl rfl _⟩
  rw [completed_cpu, afterLoad_cpu]

/-- Settles O25: the step is the handler one past the opcode, at the operand that the fetch joined. -/
theorem loadAbsoluteStep : Obligations.LoadAbsoluteStep := by
  unfold Obligations.LoadAbsoluteStep
  intro s hs hop
  refine ⟨_, _, joinBytes_toNat _ _, (step_load hs hop).trans (exec_load _ _), ?_, rfl, rfl, rfl⟩
  rw [completed_cpu, afterLoad_pastOpcode_cpu]
  rfl

end Sys2Proof.Machine
end

section
/-! PROOFS. The display (50_display.md): tile rows and the rasterizer (R126 to R132), the timing step (R116 to R122), the frame
and its presents (R123 to R125), and that the program sees none of it (R134). The frame is one conservation law: the ticks that
the record of frames and the position in the frame show (`elapsed`) grow by the ticks of each step. -/

namespace Sys2Proof.Machine

-- ---- tile rows and the rasterizer (R126, R128 to R132) ----

theorem shiftRight_and_one_toNat (v : Byte) (n : Nat) : ((v >>> n) &&& 1).toNat = (v.getLsbD n).toNat := by
  rw [BitVec.toNat_and, BitVec.toNat_ushiftRight, BitVec.getLsbD, Nat.toNat_testBit, ← Nat.shiftRight_eq_div_pow]
  exact Nat.and_one_is_mod _

/-- Settles O35: a plane's bit is its byte shifted down and cut, and two bits make a 2-bit color index. -/
theorem tileRowDecode : Obligations.TileRowDecode := by
  unfold Obligations.TileRowDecode
  intro lo hi col
  have hlo : (lo.getLsbD (7 - col.val)).toNat ≤ 1 := Bool.toNat_le _
  have hhi : (hi.getLsbD (7 - col.val)).toNat ≤ 1 := Bool.toNat_le _
  simp only [decodeRow, colorIndex, shiftRight_and_one_toNat, Fin.getElem_fin, Vector.getElem_ofFn, BitVec.toNat_ofNat]
  omega

theorem mapIndex_toNat (v : Byte) : (mapIndex v).toNat = v.toNat / 8 := by
  have := v.isLt
  simp [mapIndex, Nat.shiftRight_eq_div_pow]
  omega

theorem withinTile_val (v : Byte) : (withinTile v).val = v.toNat % 8 := by
  simp [withinTile]

/-- The color of R130 and R131 at a column of the current line's background row is the closed form's pixel. -/
theorem backgroundColor_eq_backgroundPixel (d : Display) (x : Nat) :
    backgroundColor d (mapIndex (BitVec.ofNat 8 (d.line + d.scy.toNat))) (withinTile (BitVec.ofNat 8 (d.line + d.scy.toNat)))
      (d.scx.toNat + x) = backgroundPixel d d.line x := by
  have hy : (BitVec.ofNat 8 (d.line + d.scy.toNat)).toNat = (d.line + d.scy.toNat) % 256 := BitVec.toNat_ofNat _ _
  have hcol : (BitVec.ofNat 5 ((d.scx.toNat + x) / 8)).toNat = (d.scx.toNat + x) % 256 / 8 := by
    rw [BitVec.toNat_ofNat]
    omega
  have hx : (d.scx.toNat + x) % 8 = (d.scx.toNat + x) % 256 % 8 := by omega
  simp only [backgroundColor, backgroundPixel, paletteColor, Fin.getElem_fin, mapTile, tileIndex_val, vramRead, mapBase,
    mapIndex_toNat, withinTile_val, hy, hcol, hx]

/-- The rasterizer's row is the closed form's picture of the line (R130). -/
theorem renderScan_fb_line (d : Display) (h : d.line < 144) (x : Nat) (hx : x < 160) :
    ((renderScan d).fb[d.line])[x] = backgroundPixel d d.line x := by
  have hcol : mapIndex d.scx = BitVec.ofNat 5 (d.scx.toNat / 8) := by
    apply BitVec.eq_of_toNat_eq
    have := d.scx.isLt
    rw [mapIndex_toNat, BitVec.toNat_ofNat]
    omega
  rw [← backgroundColor_eq_backgroundPixel]
  simp only [renderScan, dif_pos h, Vector.getElem_set_self]
  rw [renderPixels_get d _ _ 160 0 d.scx.toNat _ _ _ (withinTile_val _) hcol x hx]
  simp [hx]

/-- Settles O37: the current line's row is the loop's, and the rasterizer writes no other row and nothing else. -/
theorem renderScanClosedForm : Obligations.RenderScanClosedForm := by
  unfold Obligations.RenderScanClosedForm
  intro d y x hy hx hline
  refine ⟨?_, renderScan_eq d⟩
  split
  next hdrawn =>
    subst hdrawn
    exact renderScan_fb_line d hline x hx
  next hother => rw [renderScan_fb_other d y hy hother]

-- ---- the timing step (R116 to R122) ----

/-- Ticks that a transition leaves over can as well stand in the mode clock. -/
theorem displayStepCarry_rest (rest : Nat) (d : Display) :
    displayStepCarry rest (transition { d with modeclock := 0 }) =
      displayStepCarry 0 (transition { d with modeclock := rest }) := by
  rw [transition_modeclock_comm d 0, transition_modeclock_comm d rest]
  simp only [displayStepCarry, Nat.zero_add, Nat.add_zero]

/-- Settles O38: the loop of R117 without its bound, the rest of the ticks in the mode clock. -/
theorem carryConsumesThreshold : Obligations.CarryConsumesThreshold := by
  unfold Obligations.CarryConsumesThreshold
  intro ticks d
  have h := displayStepCarry_eq ticks d
  rw [displayStepCarry_rest] at h
  exact h

/-- Two steps under CARRY are one step of their ticks together (R117). -/
theorem displayStep_carry_add (m n : Nat) (d : Display) :
    displayStep .carry n (displayStep .carry m d) = displayStep .carry (m + n) d := displayStepCarry_add m n d

/-- Under CARRY a run of steps is one step of the total (R117). The run has at least one step: a run of none
does not even test the mode clock. -/
theorem foldl_displayStep_carry (n : Nat) (ticks : List Nat) (d : Display) :
    (n :: ticks).foldl (fun d n => displayStep .carry n d) d = displayStep .carry (n :: ticks).sum d := by
  induction ticks generalizing n d with
  | nil => rfl
  | cons m ticks ih => rw [List.foldl_cons, ih, displayStep_carry_add, ← List.sum_cons]

/-- Settles O39: both runs are one step of the same total. -/
theorem onlyTotalTicksMatter : Obligations.OnlyTotalTicksMatter := by
  unfold Obligations.OnlyTotalTicksMatter
  intro d xs ys hxs hys hsum
  obtain ⟨x, xs, rfl⟩ := List.exists_cons_of_ne_nil hxs
  obtain ⟨y, ys, rfl⟩ := List.exists_cons_of_ne_nil hys
  rw [foldl_displayStep_carry, foldl_displayStep_carry, hsum]

/-- Settles O40, by the two branches of `display_step` under DISCARD. -/
theorem discardDropsOvershoot : Obligations.DiscardDropsOvershoot := by
  unfold Obligations.DiscardDropsOvershoot
  intro ticks d
  exact ⟨fun h => if_neg (Nat.not_le.2 h), fun h => if_pos h⟩

/-- The four ways out of a mode (R119 to R122). -/
theorem transition_of_oamScan {d : Display} (h : d.mode = .oamScan) : transition d = leaveOamScan d := by
  rw [transition, h]
theorem transition_of_vramScan {d : Display} (h : d.mode = .vramScan) : transition d = leaveVramScan d := by
  rw [transition, h]
theorem transition_of_hblank {d : Display} (h : d.mode = .hblank) : transition d = leaveHblank d := by
  rw [transition, h]
theorem transition_of_vblank {d : Display} (h : d.mode = .vblank) : transition d = leaveVblankLine d := by
  rw [transition, h]

/-- Leaving HBlank after line 142 presents the frame and begins VBlank; after any other line it goes on with the next
(R121). -/
theorem leaveHblank_last {d : Display} (h : d.line + 1 = 143) :
    leaveHblank d = { d with line := 143, mode := .vblank, presents := d.presents ++ [d.fb] } := by
  simp [leaveHblank, present, h]
theorem leaveHblank_next {d : Display} (h : d.line + 1 ≠ 143) :
    leaveHblank d = { d with line := d.line + 1, mode := .oamScan } := if_neg h

/-- The end of line 153 begins a frame; the end of any other VBlank line goes on with the next (R122). -/
theorem leaveVblankLine_last {d : Display} (h : 153 < d.line + 1) :
    leaveVblankLine d = { d with line := 0, mode := .oamScan } := if_pos h
theorem leaveVblankLine_next {d : Display} (h : d.line + 1 ≤ 153) :
    leaveVblankLine d = { d with line := d.line + 1 } := if_neg (Nat.not_lt.2 h)

/-- Settles O41: the table of the modes' thresholds, and each mode's way out. -/
theorem modeTransitions : Obligations.ModeTransitions := by
  unfold Obligations.ModeTransitions
  exact ⟨by decide, fun d => ⟨transition_of_oamScan, transition_of_vramScan,
    fun hm hline => (transition_of_hblank hm).trans (leaveHblank_last hline),
    fun hm hline => (transition_of_hblank hm).trans (leaveHblank_next hline),
    fun hm hline => (transition_of_vblank hm).trans (leaveVblankLine_last hline),
    fun hm hline => (transition_of_vblank hm).trans (leaveVblankLine_next hline)⟩⟩

-- ---- the frame (R123 to R125) ----

/-- The ticks since VBlank last began, that is since line 143 began: VBlank's eleven lines of 456 ticks, then the visible
lines, each of 80, 172 and 204 (R116, R123). -/
def sinceVblank (d : Display) : Nat :=
  match d.mode with
  | .vblank => 456 * (d.line - 143) + d.modeclock
  | .oamScan => 5016 + 456 * d.line + d.modeclock
  | .vramScan => 5016 + 456 * d.line + 80 + d.modeclock
  | .hblank => 5016 + 456 * d.line + 252 + d.modeclock

/-- The ticks the display has run, as its record of presented frames and its position in the frame show them: 70,224 for
each frame presented, and those since VBlank began (R124). -/
def elapsed (d : Display) : Nat := 70224 * d.presents.length + sinceVblank d

theorem elapsed_addModeclock (d : Display) (c : Nat) :
    elapsed { d with modeclock := d.modeclock + c } = elapsed d + c := by
  unfold elapsed sinceVblank
  cases d.mode <;> simp only [Nat.add_assoc]

/-- A transition stands for the ticks of the mode it leaves (R119 to R124). -/
theorem elapsed_transition {d : Display} (h : LineFitsMode d) : elapsed (transition d) = elapsed d + threshold d.mode := by
  obtain ⟨hrange, hvisible, hvblank⟩ := h
  cases hm : d.mode with
  | oamScan =>
    rw [transition_of_oamScan hm]
    simp only [elapsed, sinceVblank, leaveOamScan, hm, threshold]
    omega
  | vramScan =>
    rw [transition_of_vramScan hm]
    simp only [elapsed, sinceVblank, leaveVramScan, hm, threshold, renderScan_line, renderScan_modeclock,
      renderScan_presents]
    omega
  | hblank =>
    rw [transition_of_hblank hm]
    by_cases hline : d.line + 1 = 143
    · rw [leaveHblank_last hline]
      simp only [elapsed, sinceVblank, hm, threshold, List.length_append, List.length_singleton]
      omega
    · rw [leaveHblank_next hline]
      simp only [elapsed, sinceVblank, hm, threshold]
      omega
  | vblank =>
    have hfirst := hvblank hm
    rw [transition_of_vblank hm]
    by_cases hline : d.line + 1 ≤ 153
    · rw [leaveVblankLine_next hline]
      simp only [elapsed, sinceVblank, hm, threshold]
      omega
    · rw [leaveVblankLine_last (by omega)]
      simp only [elapsed, sinceVblank, hm, threshold]
      omega

theorem LineFitsMode.withModeclock {d : Display} (h : LineFitsMode d) (c : Nat) :
    LineFitsMode { d with modeclock := c } := by
  obtain ⟨hrange, hvisible, hvblank⟩ := h
  exact ⟨hrange, hvisible, hvblank⟩

/-- The loop of R117 consumes a threshold for each transition it takes, so it loses no tick. -/
theorem elapsed_carryLoop (fuel : Nat) {d : Display} (h : LineFitsMode d) : elapsed (carryLoop fuel d) = elapsed d := by
  induction fuel generalizing d with
  | zero => rfl
  | succ fuel ih =>
    simp only [carryLoop]
    split
    next => rfl
    next hge =>
      have hfits := h.withModeclock (d.modeclock - threshold d.mode)
      rw [ih (transition_lineFitsMode hfits), elapsed_transition hfits, ← elapsed_addModeclock]
      simp only [Nat.sub_add_cancel (Nat.not_lt.1 hge)]

theorem elapsed_displayStep_carry (ticks : Nat) {d : Display} (h : LineFitsMode d) :
    elapsed (displayStep .carry ticks d) = elapsed d + ticks :=
  (elapsed_carryLoop _ (h.withModeclock (d.modeclock + ticks))).trans (elapsed_addModeclock d ticks)

/-- VBlank begins again within a frame's ticks (R124). -/
theorem sinceVblank_lt {d : Display} (h : LineFitsMode d) (hclock : d.modeclock < threshold d.mode) :
    sinceVblank d < 70224 := by
  obtain ⟨hrange, hvisible, hvblank⟩ := h
  unfold sinceVblank
  cases hm : d.mode with
  | vblank =>
    simp only [hm, threshold] at hclock ⊢
    omega
  | oamScan | vramScan | hblank =>
    have := hvisible (by simp [hm])
    simp only [hm, threshold] at hclock ⊢
    omega

/-- The frame table of the claims (R123) at tick `u` of a line. -/
theorem timingAfter_of_line {ticks line u : Nat} (h : ticks % 70224 = 456 * line + u) (hu : u < 456) :
    timingAfter ticks =
      if line < 143 then
        if u < 80 then (line, .oamScan, u)
        else if u < 252 then (line, .vramScan, u - 80)
        else (line, .hblank, u - 252)
      else (line, .vblank, u) := by
  have hline : ticks % 70224 / 456 = line := by omega
  have htick : ticks % 70224 % 456 = u := by omega
  simp only [timingAfter, hline, htick]

/-- The ticks since VBlank began fix line, mode and mode clock: they are those of the frame table, whose frame begins 5,016
ticks after VBlank. -/
theorem timingAfter_eq {d : Display} (h : LineFitsMode d) (hclock : d.modeclock < threshold d.mode) {ticks : Nat}
    (hticks : (ticks + 5016) % 70224 = sinceVblank d) : timingAfter ticks = (d.line, d.mode, d.modeclock) := by
  obtain ⟨hrange, hvisible, hvblank⟩ := h
  unfold sinceVblank at hticks
  cases hm : d.mode with
  | oamScan =>
    have := hvisible (by simp [hm])
    simp only [hm, threshold] at hclock hticks
    rw [timingAfter_of_line (line := d.line) (u := d.modeclock) (by omega) (by omega), if_pos (by omega), if_pos hclock]
  | vramScan =>
    have := hvisible (by simp [hm])
    simp only [hm, threshold] at hclock hticks
    rw [timingAfter_of_line (line := d.line) (u := 80 + d.modeclock) (by omega) (by omega), if_pos (by omega),
      if_neg (by omega), if_pos (by omega), Nat.add_sub_cancel_left]
  | hblank =>
    have := hvisible (by simp [hm])
    simp only [hm, threshold] at hclock hticks
    rw [timingAfter_of_line (line := d.line) (u := 252 + d.modeclock) (by omega) (by omega), if_pos (by omega),
      if_neg (by omega), if_neg (by omega), Nat.add_sub_cancel_left]
  | vblank =>
    have := hvblank hm
    simp only [hm, threshold] at hclock hticks
    rw [timingAfter_of_line (line := d.line) (u := d.modeclock) (by omega) hclock, if_neg (by omega)]

/-- Under CARRY any run of steps from the start of a frame keeps the line in the range of its mode and the mode clock below
the threshold, and loses no tick. -/
theorem run_from_frameStart {d : Display} (ticks : List Nat) (hm : d.mode = .oamScan) (hline : d.line = 0)
    (hclock : d.modeclock = 0) :
    let e := ticks.foldl (fun d n => displayStep .carry n d) d
    LineFitsMode e ∧ e.modeclock < threshold e.mode ∧
      elapsed e = 70224 * d.presents.length + 5016 + ticks.sum := by
  have hstart : LineFitsMode d := ⟨by omega, by omega, by simp [hm]⟩
  have helapsed : elapsed d = 70224 * d.presents.length + 5016 := by simp [elapsed, sinceVblank, hm, hline, hclock]
  cases ticks with
  | nil => exact ⟨hstart, by simp [hm, hclock, threshold], helapsed⟩
  | cons n ticks =>
    rw [foldl_displayStep_carry]
    refine ⟨displayStep_lineFitsMode _ _ hstart, displayStep_carry_modeclock_lt _ _, ?_⟩
    rw [← helapsed]
    exact elapsed_displayStep_carry _ hstart

/-- Settles O42: the ticks since VBlank began fix line, mode and mode clock. -/
theorem frameTiming : Obligations.FrameTiming := by
  unfold Obligations.FrameTiming
  intro d ticks hm hline hclock
  obtain ⟨hfits, hlt, helapsed⟩ := run_from_frameStart ticks hm hline hclock
  have hsince := sinceVblank_lt hfits hlt
  rw [elapsed] at helapsed
  exact (timingAfter_eq hfits hlt (by omega)).symm

theorem transition_presents_isPrefix (d : Display) : d.presents <+: (transition d).presents := by
  obtain ⟨frames, hframes⟩ := transition_presents d
  exact ⟨frames, hframes.symm⟩

/-- `display_step` only ever appends to the record of presented frames (R125). -/
theorem displayStep_presents (m : OvershootMode) (ticks : Nat) (d : Display) :
    d.presents <+: (displayStep m ticks d).presents :=
  displayStep_induct (P := fun e => d.presents <+: e.presents) (fun _ _ h => h)
    (fun e h => h.trans (transition_presents_isPrefix e)) m ticks d ⟨[], List.append_nil _⟩

theorem foldl_displayStep_presents (m : OvershootMode) (ticks : List Nat) (d : Display) :
    d.presents <+: (ticks.foldl (fun d n => displayStep m n d) d).presents := by
  induction ticks generalizing d with
  | nil => exact ⟨[], List.append_nil _⟩
  | cons n ticks ih => exact (displayStep_presents m n d).trans (ih _)

/-- Settles O43: the ticks run, 5,016 of VBlank before the frame's start among them, are 70,224 for each frame presented
and less than one frame more. -/
theorem onePresentPerFrame : Obligations.OnePresentPerFrame := by
  unfold Obligations.OnePresentPerFrame
  intro d ticks hm hline hclock
  obtain ⟨hfits, hlt, helapsed⟩ := run_from_frameStart ticks hm hline hclock
  have hsince := sinceVblank_lt hfits hlt
  obtain ⟨frames, hframes⟩ := foldl_displayStep_presents .carry ticks d
  rw [elapsed, ← hframes, List.length_append] at helapsed
  exact ⟨frames, hframes.symm, by omega⟩

-- ---- the display across a step ----

theorem step_presents {s t : State} (h : step s = .next t) : s.lcd.presents <+: t.lcd.presents :=
  step_rel (R := fun s t => s.lcd.presents <+: t.lcd.presents)
    (trans := List.IsPrefix.trans)
    (boot := fun s => by rw [bootExit_lcd])
    (cpu := fun ⟨_, hlcd, _⟩ => by rw [hlcd])
    (write := fun s addr v => by rw [write8_lcd])
    (completion := fun m s => displayStep_presents _ _ _) h

/-- Settles O44: a step appends, and the fatal stop is the one effect that stops a running machine. -/
theorem presentsOnlyAppended : Obligations.PresentsOnlyAppended := by
  unfold Obligations.PresentsOnlyAppended
  intro s t h
  obtain ⟨frames, hframes⟩ := step_presents h
  refine ⟨⟨frames, hframes.symm⟩, fun hstopped => ?_⟩
  obtain ⟨hrunning, -⟩ := step_effect h
  obtain ⟨operand, he⟩ := step_effect_opcode h
  obtain rfl | ⟨hsame, -⟩ := he.cost
  · exact bootExit_lcd s
  · simp [hsame, hrunning] at hstopped

/-- While the line fits the mode, no transition draws row 143: a visible line is at most 142 (R123). -/
theorem transition_lastRow {d : Display} (h : LineFitsMode d) : (transition d).fb[143] = d.fb[143] := by
  cases hm : d.mode with
  | oamScan => rw [transition_of_oamScan hm]; rfl
  | vramScan =>
    have hline : d.line ≤ 142 := h.visible (by simp [hm])
    rw [transition_of_vramScan hm]
    exact renderScan_fb_other d 143 (by decide) (by omega)
  | hblank => rw [transition_of_hblank hm, leaveHblank]; split <;> rfl
  | vblank => rw [transition_of_vblank hm, leaveVblankLine]; split <;> rfl

/-- What a step keeps while the line fits the mode: that it fits, and row 143. -/
def KeepsLastRow (d e : Display) : Prop := LineFitsMode d → LineFitsMode e ∧ e.fb[143] = d.fb[143]

theorem displayStep_keepsLastRow (m : OvershootMode) (ticks : Nat) (d : Display) :
    KeepsLastRow d (displayStep m ticks d) := fun h =>
  displayStep_induct (P := fun e => LineFitsMode e ∧ e.fb[143] = d.fb[143])
    (fun _ c ⟨hfits, hrow⟩ => ⟨hfits.withModeclock c, hrow⟩)
    (fun _ ⟨hfits, hrow⟩ => ⟨transition_lineFitsMode hfits, (transition_lastRow hfits).trans hrow⟩) m ticks d ⟨h, rfl⟩

theorem step_keepsLastRow {s t : State} (h : step s = .next t) : KeepsLastRow s.lcd t.lcd :=
  step_rel (R := fun s t => KeepsLastRow s.lcd t.lcd)
    (trans := fun hst htu hs => by
      obtain ⟨ht, hrow⟩ := hst hs
      obtain ⟨hu, hrow'⟩ := htu ht
      exact ⟨hu, hrow'.trans hrow⟩)
    (boot := fun s hs => by rw [bootExit_lcd]; exact ⟨hs, rfl⟩)
    (cpu := fun ⟨_, hlcd, _⟩ hs => by rw [hlcd]; exact ⟨hs, rfl⟩)
    (write := fun s addr v ⟨hrange, hvisible, hvblank⟩ => by
      rw [write8_lcd]
      exact ⟨⟨hrange, hvisible, hvblank⟩, rfl⟩)
    (completion := fun m s => displayStep_keepsLastRow _ _ _) h

/-- Settles O45: of the invariant, that the line fits the mode is what keeps the rasterizer off row 143. -/
theorem lastRowNeverDrawn : Obligations.LastRowNeverDrawn := by
  unfold Obligations.LastRowNeverDrawn
  intro s t hs h
  obtain ⟨-, -, hout⟩ := (inv_iff s).1 hs
  exact (step_keepsLastRow h hout.line).2

-- ---- the display is hidden from the program (R134) ----

/-- Two states that a program cannot tell apart: equal but for the display's timing, configuration, tile cache, framebuffer
and output record. -/
structure SameView (s s' : State) : Prop where
  cpu : s.cpu = s'.cpu
  bus : s.bus = s'.bus
  cfg : s.cfg = s'.cfg
  vram : s.lcd.vram = s'.lcd.vram
  oam : s.lcd.oam = s'.lcd.oam

/-- An operation whose effect on what the program sees depends on nothing else. -/
def KeepsView (f : State → State) : Prop := ∀ ⦃s s' : State⦄, SameView s s' → SameView (f s) (f s')

theorem SameView.read8_eq {s s' : State} (h : SameView s s') : read8 s = read8 s' :=
  funext (read8_congr h.bus h.vram h.oam)

theorem SameView.writeRegion {s s' : State} (h : SameView s s') (v : Byte) (r : Region) :
    SameView (writeRegion s v r) (writeRegion s' v r) := by
  obtain ⟨hcpu, hbus, hcfg, hvram, hoam⟩ := h
  cases r with
  | vram off =>
    exact ⟨hcpu, hbus, hcfg, by simp [Machine.writeRegion, hvram], by simp [Machine.writeRegion, hoam]⟩
  | oam off => exact ⟨hcpu, hbus, hcfg, hvram, by simp [Machine.writeRegion, oamWrite, hoam]⟩
  | eram off | wram off | zram off => exact ⟨hcpu, by simp [Machine.writeRegion, hbus], hcfg, hvram, hoam⟩
  | bootRom | cart | unmapped | reserved => exact ⟨hcpu, hbus, hcfg, hvram, hoam⟩

/-- A bus write goes to the store its address selects, which the program sees. -/
theorem SameView.write8 {s s' : State} (h : SameView s s') (addr : Word) (v : Byte) :
    SameView (write8 s addr v) (write8 s' addr v) := by
  rw [Machine.write8, Machine.write8, ← h.bus]
  exact h.writeRegion v _

/-- Changes of the CPU alone that leave equal CPUs. -/
theorem SameView.of_sameOutsideCpu {s s' t t' : State} (h : SameView s s') (ht : SameOutsideCpu s t)
    (ht' : SameOutsideCpu s' t') (hcpu : t.cpu = t'.cpu) : SameView t t' where
  cpu := hcpu
  bus := by rw [ht.bus, ht'.bus, h.bus]
  cfg := by rw [ht.cfg, ht'.cfg, h.cfg]
  vram := by rw [ht.lcd, ht'.lcd, h.vram]
  oam := by rw [ht.lcd, ht'.lcd, h.oam]

/-- The display advance writes no store (50_display.md R117, R118), so the completion of an instruction keeps the view. -/
theorem SameView.completed {s s' : State} (h : SameView s s') (m : Nat) : SameView (completed m s) (completed m s') := by
  obtain ⟨hcpu, hbus, hcfg, hvram, hoam⟩ := h
  constructor <;> simp [*]

theorem bootExit_keepsView : KeepsView bootExit := by
  intro s s' ⟨hcpu, hbus, hcfg, hvram, hoam⟩
  refine ⟨by simpa, ?_, by simpa, by simpa, by simpa⟩
  rw [bootExit_eq, bootExit_eq, afterBootTest, afterBootTest, hbus, hcpu]

theorem SameView.readReg_eq {s s' : State} (h : SameView s s') (r : Reg8) : readReg s r = readReg s' r := by
  unfold readReg; rw [h.cpu]

theorem SameView.pair_eq {s s' : State} (h : SameView s s') (p : Pair) :
    pairHigh s p = pairHigh s' p ∧ pairLow s p = pairLow s' p := by
  unfold pairHigh pairLow; rw [h.cpu]; exact ⟨rfl, rfl⟩

theorem afterAdd_keepsView (r : Reg8) : KeepsView (afterAdd r) := fun _ _ h =>
  h.of_sameOutsideCpu (afterAdd_sameOutsideCpu r _) (afterAdd_sameOutsideCpu r _)
    (by simp only [afterAdd_cpu, h.cpu, h.cfg, h.readReg_eq])

theorem afterCp_keepsView (r : Reg8) : KeepsView (afterCp r) := fun _ _ h =>
  h.of_sameOutsideCpu (afterCp_sameOutsideCpu r _) (afterCp_sameOutsideCpu r _)
    (by simp only [afterCp_cpu, h.cpu, h.cfg, h.readReg_eq])

theorem afterLoad_keepsView (nn : Word) : KeepsView (afterLoad nn) := fun _ _ h =>
  h.of_sameOutsideCpu (afterLoad_sameOutsideCpu nn _) (afterLoad_sameOutsideCpu nn _)
    (by simp only [afterLoad_cpu, h.cpu, h.read8_eq])

theorem afterPop_keepsView (p : Pair) : KeepsView (afterPop p) := fun _ _ h =>
  h.of_sameOutsideCpu (afterPop_sameOutsideCpu p _) (afterPop_sameOutsideCpu p _)
    (by cases p <;> simp [afterPop, writePair, topByte_eq, h.cpu, h.read8_eq])

theorem afterPush_keepsView (p : Pair) : KeepsView (afterPush p) := by
  intro s s' h
  obtain ⟨hhigh, hlow⟩ := h.pair_eq p
  have hwrites := (h.write8 (s.cpu.sp - 1) (pairHigh s p)).write8 (s.cpu.sp - 2) (pairLow s p)
  rw [afterPush_eq, afterPush_eq, ← h.cpu, ← hhigh, ← hlow]
  exact hwrites.of_sameOutsideCpu ⟨rfl, rfl, rfl⟩ ⟨rfl, rfl, rfl⟩ (by simp [h.cpu])

theorem afterFatal_keepsView (op : Byte) : KeepsView (afterFatal op) := fun _ _ h =>
  h.of_sameOutsideCpu ⟨rfl, rfl, rfl⟩ ⟨rfl, rfl, rfl⟩ (by simp only [afterFatal_cpu, h.cpu])

theorem pastOpcode_keepsView : KeepsView pastOpcode := fun _ _ h =>
  h.of_sameOutsideCpu ⟨rfl, rfl, rfl⟩ ⟨rfl, rfl, rfl⟩ (by simp only [pastOpcode_cpu, h.cpu])

/-- The writes of an instruction keep the view, and so does its completion at a cost the parameters give. -/
theorem KeepsView.thenComplete {f : State → State} (hf : KeepsView f) (cost : Config → Nat) :
    KeepsView fun s => completed (cost s.cfg) (f s) := by
  intro s s' h
  simp only [h.cfg]
  exact (hf h).completed _

/-- Every handler answers a next state whose view is made of the view alone. -/
theorem exec_keepsView (i : Instr) : ∃ f, (∀ s, exec i s = .next (f s)) ∧ KeepsView f := by
  cases i
  case nop => exact ⟨_, fun _ => rfl, fun _ _ h => h.completed 1⟩
  case ldAnn nn => exact ⟨_, fun _ => rfl, (afterLoad_keepsView nn).thenComplete Config.cycLdamm⟩
  case addAB => exact ⟨_, fun _ => rfl, (afterAdd_keepsView .b).thenComplete Config.cycAdd⟩
  case addAC => exact ⟨_, fun _ => rfl, (afterAdd_keepsView .c).thenComplete Config.cycAdd⟩
  case addAD => exact ⟨_, fun _ => rfl, (afterAdd_keepsView .d).thenComplete Config.cycAdd⟩
  case addAE => exact ⟨_, fun _ => rfl, (afterAdd_keepsView .e).thenComplete Config.cycAdd⟩
  case addAH => exact ⟨_, fun _ => rfl, (afterAdd_keepsView .h).thenComplete Config.cycAdd⟩
  case addAL => exact ⟨_, fun _ => rfl, (afterAdd_keepsView .l).thenComplete Config.cycAdd⟩
  case addAA => exact ⟨_, fun _ => rfl, (afterAdd_keepsView .a).thenComplete Config.cycAdd⟩
  case cpB => exact ⟨_, fun _ => rfl, (afterCp_keepsView .b).thenComplete Config.cycCp⟩
  case cpC => exact ⟨_, fun _ => rfl, (afterCp_keepsView .c).thenComplete Config.cycCp⟩
  case cpD => exact ⟨_, fun _ => rfl, (afterCp_keepsView .d).thenComplete Config.cycCp⟩
  case cpE => exact ⟨_, fun _ => rfl, (afterCp_keepsView .e).thenComplete Config.cycCp⟩
  case cpH => exact ⟨_, fun _ => rfl, (afterCp_keepsView .h).thenComplete Config.cycCp⟩
  case cpL => exact ⟨_, fun _ => rfl, (afterCp_keepsView .l).thenComplete Config.cycCp⟩
  case cpA => exact ⟨_, fun _ => rfl, (afterCp_keepsView .a).thenComplete Config.cycCp⟩
  case pushBC => exact ⟨_, fun _ => rfl, (afterPush_keepsView .bc).thenComplete Config.cycPush⟩
  case pushDE => exact ⟨_, fun _ => rfl, (afterPush_keepsView .de).thenComplete Config.cycPush⟩
  case pushHL => exact ⟨_, fun _ => rfl, (afterPush_keepsView .hl).thenComplete Config.cycPush⟩
  case pushAF => exact ⟨_, fun _ => rfl, (afterPush_keepsView .af).thenComplete Config.cycPush⟩
  case popBC => exact ⟨_, fun _ => rfl, (afterPop_keepsView .bc).thenComplete Config.cycPop⟩
  case popDE => exact ⟨_, fun _ => rfl, (afterPop_keepsView .de).thenComplete Config.cycPop⟩
  case popHL => exact ⟨_, fun _ => rfl, (afterPop_keepsView .hl).thenComplete Config.cycPop⟩
  case popAF => exact ⟨_, fun _ => rfl, (afterPop_keepsView .af).thenComplete Config.cycPop⟩
  all_goals exact ⟨_, fun _ => rfl, afterFatal_keepsView _⟩

theorem SameView.fetchBytes_eq {s s' : State} (h : SameView s s') : fetchBytes s = fetchBytes s' := by
  unfold fetchBytes
  rw [h.read8_eq, h.cpu]

/-- A step fetches one instruction from both states and runs one handler on both. -/
theorem SameView.step {s s' t t' : State} (h : SameView s s') (ht : step s = .next t) (ht' : step s' = .next t') :
    SameView t t' := by
  obtain ⟨hrun, -⟩ := step_effect ht
  have hrun' : s'.cpu.stopped = false := h.cpu ▸ hrun
  obtain ⟨i, hi, -⟩ := decode_fetchBytes (bootExit s)
  have hi' : decode (fetchBytes (bootExit s')) = .ok (i, []) := (bootExit_keepsView h).fetchBytes_eq ▸ hi
  obtain ⟨f, hf, hkeeps⟩ := exec_keepsView i
  rw [step_running hrun hi, hf] at ht
  rw [step_running hrun' hi', hf] at ht'
  cases ht
  cases ht'
  exact hkeeps (pastOpcode_keepsView (bootExit_keepsView h))

/-- Settles O46: what the program sees after a step is made of what it saw before. -/
theorem displayHiddenFromProgram : Obligations.DisplayHiddenFromProgram := by
  unfold Obligations.DisplayHiddenFromProgram
  intro s s' t t' hcpu hbus hcfg hvram hoam ht ht'
  obtain ⟨hcpu, hbus, hcfg, hvram, hoam⟩ := SameView.step ⟨hcpu, hbus, hcfg, hvram, hoam⟩ ht ht'
  exact ⟨hcpu, hbus, hcfg, hvram, hoam⟩

end Sys2Proof.Machine
end

section
/-! PROOFS. The fatal stop (60_exceptions.md): the step that takes it (R137, R138), and every move of the host after it (R139,
R154). -/

namespace Sys2Proof.Machine

theorem stepResult_of_stopped {s : State} (h : s.cpu.stopped = true) :
    stepResult s = .stopped s.cpu.faultOpcode s.cpu.faultPc := by
  rw [stepResult, if_pos h]

/-- On a stopped machine the host's step reports the record and leaves the state (R139). -/
theorem hostStep_of_stopped {s : State} (h : s.cpu.stopped = true) :
    hostStep s = (s, .stopped s.cpu.faultOpcode s.cpu.faultPc) := by
  rw [hostStep, step_stopped h]
  exact Prod.ext rfl (stepResult_of_stopped h)

/-- A stopped state is a fixed point of the host's step. -/
theorem iterate_hostStep_of_stopped {s : State} (h : s.cpu.stopped = true) (n : Nat) :
    (fun r => (hostStep r).1)^[n] s = s :=
  Function.iterate_fixed (congrArg Prod.fst (hostStep_of_stopped h)) n

/-- A stop means that a step has been taken, so the load port is closed (R154). -/
theorem loadCartridge_of_stopped {s : State} (h : s.cpu.stopped = true) (bytes : List Byte) :
    loadCartridge bytes s = .refused .loadDuringRun := by
  have hstarted : ¬beforeFirstStep s = true := by simp [beforeFirstStep, h]
  rw [loadCartridge, if_neg hstarted]

/-- Settles O7: a stopped state is a fixed point of the step, and reset clears the stop. -/
theorem stopIsFinalUntilReset : Obligations.StopIsFinalUntilReset := by
  unfold Obligations.StopIsFinalUntilReset
  intro s h
  refine ⟨step_stopped h, fun n => ?_, loadCartridge_of_stopped h, rfl⟩
  rw [iterate_hostStep_of_stopped h, hostStep_of_stopped h]

/-- At an opcode that is not admitted, the step is the fatal stop with it, one past it (R137). -/
theorem step_of_not_admitted {s : State} (hs : Running s) (hop : read8 (afterBootTest s) s.cpu.pc ∉ admittedOpcodes) :
    step s = .next (afterFatal (read8 (afterBootTest s) s.cpu.pc) (pastOpcode (afterBootTest s))) := by
  obtain ⟨t, ht, -⟩ := step_total hs
  obtain ⟨operand, he⟩ := step_effect_opcode ht
  rw [ht, he.eq_afterFatal hop, bootExit_eq]

/-- The handler's pc - 1 is the address the opcode was fetched from: the stop past the opcode records that address and
leaves pc one past it, and nothing else (R137, R138). -/
theorem afterFatal_pastOpcode (op : Byte) (s : State) : afterFatal op (pastOpcode s) =
    { s with cpu := { s.cpu with
        pc := s.cpu.pc + 1, stopped := true, faultOpcode := op, faultPc := s.cpu.pc } } := by
  have hpc : s.cpu.pc + 1 - 1 = s.cpu.pc := BitVec.add_sub_cancel s.cpu.pc 1
  rw [afterFatal, pastOpcode_cpu, hpc]
  rfl

/-- Settles O11: the step is the fatal stop, and the host is handed the record it wrote. -/
theorem fatalStepIsPrecise : Obligations.FatalStepIsPrecise := by
  unfold Obligations.FatalStepIsPrecise
  intro s hs hop
  have hstep := (step_of_not_admitted hs hop).trans (congrArg _ (afterFatal_pastOpcode _ _))
  exact ⟨_, rfl, hstep, hostStep_of_step hstep⟩

end Sys2Proof.Machine
end

section
/-! PROOFS. Reset and the host's ports (70_reset_and_hazards.md): any step closes the load port (R154), what reset leaves
(R150), and where the first fetch after it reads (R151). -/

namespace Sys2Proof.Machine

-- ---- the load port after a step ----

/-- Costs in their declared ranges make every row of the table of R79 positive. -/
theorem costOfOpcode_pos {cfg : Config} (h : cfg.wellFormed = true) (op : Byte) : 0 < costOfOpcode cfg op := by
  simp only [Config.wellFormed, Bool.and_eq_true, decide_eq_true_eq] at h
  obtain ⟨⟨⟨⟨hadd, hcp⟩, hpush⟩, hpop⟩, hload⟩ := h
  unfold costOfOpcode
  repeat' split
  all_goals omega

/-- A positive machine-cycle count means that a step has completed since reset, so the load port is closed (R154). -/
theorem loadCartridge_of_clkM_pos {s : State} (h : 0 < s.cpu.clkM) (bytes : List Byte) :
    loadCartridge bytes s = .refused .loadDuringRun := by
  have hstarted : ¬beforeFirstStep s = true := by simp [beforeFirstStep, h.ne']
  rw [loadCartridge, if_neg hstarted]

/-- Settles O59: a step takes the fatal stop or adds its cost to the machine cycles, and either closes the load port. -/
theorem noCartridgeLoadDuringRun : Obligations.NoCartridgeLoadDuringRun := by
  unfold Obligations.NoCartridgeLoadDuringRun
  intro s t bytes hcfg ht
  have hcounters := countersGrowByOpcodeCost s t ht
  by_cases hstopped : t.cpu.stopped = true
  · exact loadCartridge_of_stopped hstopped bytes
  · rw [if_neg hstopped] at hcounters
    obtain ⟨hclkM, -⟩ := hcounters
    refine loadCartridge_of_clkM_pos ?_ bytes
    rw [hclkM]
    exact Nat.add_pos_right _ (costOfOpcode_pos hcfg _)

-- ---- what reset leaves ----

/-- Reset empties every store that writes reach (R150). -/
theorem readRegion_hostReset (s : State) {r : Region} (h : r.Writable) : readRegion (hostReset s) r = 0x00 := by
  cases r with
  | vram | eram | wram | oam | zram => rfl
  | bootRom | cart | unmapped | reserved => exact h.elim

theorem read8_hostReset (s : State) {addr : Word} (h : WritableAddr addr) : read8 (hostReset s) addr = 0x00 :=
  readRegion_hostReset s ((decodeAddr_writable _ addr).2 h)

theorem TileCache.zero_get (tile : Fin 384) (row col : Fin 8) : ((TileCache.zero[tile])[row])[col] = 0 := by
  simp [TileCache.zero]

theorem hostReset_fb_get (s : State) (y : Fin 144) (x : Fin 160) :
    ((hostReset s).lcd.fb[y])[x] = s.cfg.fbResetPixel := by
  simp [hostReset, State.resetWith]

/-- Settles O55: each field of `State.resetWith` is its reset value in R150; the writable stores read 0x00 region by
region, and the tile cache and the framebuffer hold one value at every pixel. -/
theorem resetEstablishesValues : Obligations.ResetEstablishesValues := by
  unfold Obligations.ResetEstablishesValues
  intro s
  have reset_fixed : State.reset = hostReset State.reset := (hostReset_resetWith Config.defaults [] [] 0 []).symm
  exact ⟨rfl, rfl, fun _ => read8_hostReset s, rfl, rfl, rfl, rfl, rfl, rfl, rfl, rfl, TileCache.zero_get,
    hostReset_fb_get s, rfl, rfl, reset_fixed⟩

-- ---- the first fetch ----

/-- Settles O57: reset sets pc to 0 and inboot to BOOT_AT_RESET, and the low rows of R46 read the store that inboot
selects. -/
theorem firstFetchAfterReset : Obligations.FirstFetchAfterReset := by
  unfold Obligations.FirstFetchAfterReset
  intro s
  have hinboot : (hostReset s).bus.inboot = s.cfg.bootAtReset := rfl
  refine ⟨rfl, rfl, fun hboot => ?_, fun hboot => ?_⟩
  · exact read8_bootRom (hostReset s) (by decide) (hinboot.trans hboot)
  · exact read8_cart (hostReset s) (by decide) (by simp [hinboot, hboot])

end Sys2Proof.Machine
end
